-- ==== Sys2Proof/Word.lean ====
section
/-! DEFINITION. The widths of 00_scope.md rule R10: a frame byte (8 bits), a data word (32 bits), a register
address (7 bits). -/

namespace Sys2Proof

/-- A frame byte, a slave address or a CRC state (u8, R10). -/
abbrev Byte := BitVec 8

/-- A data word (u32, R10). -/
abbrev Word := BitVec 32

/-- A register address (u7, R10): bit 7 of its byte is the write bit and no part of it (R66, R89, R121). -/
abbrev RegAddr := BitVec 7

end Sys2Proof
end

