-- ==== Sys2Proof/Machine/Constants.lean ====
section
/-! DEFINITION. The constants that 00_scope.md rule R8 fixes, each under a name of its own, and the default register
addresses of 20_memory.md rule R62. -/

namespace Sys2Proof.Machine.Const

open Sys2Proof

/-- SYNC (R8): byte 0 of every frame (R81, R82, R83). -/
def sync : Byte := 0x05
/-- MASTER_ADDRESS (R8): byte 1 of every reply frame (R83). -/
def masterAddress : Byte := 0xFF
/-- WRITE_BIT (R8): ORed into the register-address byte of a write frame (R84, R121). -/
def writeBit : Byte := 0x80
/-- CRC_POLY (R8): x^8 + x^2 + x + 1, the x^8 term implicit. -/
def crcPoly : Byte := 0x07
/-- CRC_INIT (R8). -/
def crcInit : Byte := 0x00
/-- WRITE_FRAME_LEN (R8). -/
def writeFrameLen : Nat := 8
/-- READ_FRAME_LEN (R8). -/
def readFrameLen : Nat := 4
/-- REPLY_FRAME_LEN (R8). -/
def replyFrameLen : Nat := 8
/-- MIN_VELOCITY, revolutions per second, inclusive (R8, R187). -/
def minVelocity : Rat := 0
/-- MAX_VELOCITY, revolutions per second, inclusive (R8, R187). -/
def maxVelocity : Rat := 5
/-- USTEPS_PER_REV (R8, R185). -/
def ustepsPerRev : Rat := 51200
/-- BAND_LOW (R8, R209). -/
def bandLow : Rat := 19 / 20
/-- BAND_HIGH (R8, R209). -/
def bandHigh : Rat := 11 / 10
/-- READ_TIMEOUT in milliseconds (R8). No step reads it: the model has no time (R270, R310). -/
def readTimeoutMs : Nat := 100
/-- WRITE_SETTLE in milliseconds (R8). No step reads it: the model has no time (R270, R310). -/
def writeSettleMs : Nat := 5
/-- POSITION_RESET_VALUE (R8): written to target and actual position. -/
def positionResetValue : Word := 0

/-- REG_VACTUAL (R8, R62): fixed by the source. -/
def regVactual : RegAddr := 0x22
/-- REG_DRV_STATUS (R8, R62): fixed by the source. -/
def regDrvStatus : RegAddr := 0x6F

/-! The default addresses of rule R62 [the spec's: from general knowledge, not in source]. They are also the register
fields of the per-register rows of the opcode table (R86). PRESUMED, log 5. -/

def addrGconf : RegAddr := 0x00
def addrIholdIrun : RegAddr := 0x10
def addrTpowerdown : RegAddr := 0x11
def addrTpwmthrs : RegAddr := 0x13
def addrRampmode : RegAddr := 0x20
def addrXactual : RegAddr := 0x21
def addrVstart : RegAddr := 0x23
def addrA1 : RegAddr := 0x24
def addrV1 : RegAddr := 0x25
def addrAmax : RegAddr := 0x26
def addrVmax : RegAddr := 0x27
def addrDmax : RegAddr := 0x28
def addrD1 : RegAddr := 0x2A
def addrVstop : RegAddr := 0x2B
def addrXtarget : RegAddr := 0x2D
def addrChopconf : RegAddr := 0x6C
def addrCoolconf : RegAddr := 0x6D

/-- CFG_COOLCONF's default, "disabled" (R9) [the spec's: from general knowledge]. PRESUMED, log 5. -/
def coolconfDisabled : Word := 0
/-- RAMPMODE_POSITION's default (R9) [the spec's: from general knowledge]. PRESUMED, log 5. -/
def rampmodePosition : Word := 0
/-- DATA_CORRUPT_INIT's default (R9, D20). Log 6. -/
def dataCorruptInit : Bool := true
/-- STALL_EXC_RESET's default (R9, D22). Log 6. -/
def stallExcReset : Bool := false
/-- VEL_EXC_RESET's default (R9, D22). Log 6. -/
def velExcReset : Bool := false

end Sys2Proof.Machine.Const
end

