-- ==== Sys2Proof/Config.lean ====
section
/-! DEFINITION. The configuration of 00_scope.md rule R9: the parameters the source leaves open. The record is carried in
State, so that a claim about every state quantifies over every configuration (log 3); `Config.initial` is the one State.reset
carries: the spec's defaults, and an opaque constant for each parameter the spec leaves OPEN (log 4). A claim about block reset
that must not rest on those defaults is stated of `State.resetWith`, which takes the configuration as an argument. -/

namespace Sys2Proof

open Sys2Proof.Machine

/-- MSG (R9, R255): the text of every error but Timeout, whose text the source gives. Plain data, one field for each variant of
rule R250's table (log 21). -/
structure Messages where
  portUnavailable : String
  openFailed : String
  nullOrEmpty : String
  wrongLength : String
  badSyncOrAddress : String
  crcMismatch : String
  invalidVelocity : String
  configReadbackFailed : String
  stall : String
  overTemperaturePrewarning : String
  overTemperature : String
  openLoadA : String
  openLoadB : String
  shortToGroundA : String
  shortToGroundB : String
  velocityOutOfBand : String
  deriving DecidableEq, Repr, Inhabited

/-- The parameters of rule R9. -/
structure Config where
  /-- SLAVE_ADDRESS. -/
  slaveAddress : Byte
  regGconf : RegAddr
  regChopconf : RegAddr
  regCoolconf : RegAddr
  regIholdIrun : RegAddr
  regTpowerdown : RegAddr
  regTpwmthrs : RegAddr
  regRampmode : RegAddr
  regXactual : RegAddr
  regVstart : RegAddr
  regA1 : RegAddr
  regV1 : RegAddr
  regAmax : RegAddr
  regVmax : RegAddr
  regDmax : RegAddr
  regD1 : RegAddr
  regVstop : RegAddr
  regXtarget : RegAddr
  cfgGconf : Word
  cfgChopconf : Word
  cfgCoolconf : Word
  cfgIholdIrun : Word
  cfgTpowerdown : Word
  cfgTpwmthrs : Word
  cfgVstart : Word
  cfgA1 : Word
  cfgV1 : Word
  cfgAmax : Word
  cfgDmax : Word
  cfgD1 : Word
  cfgVstop : Word
  /-- RAMPMODE_POSITION. -/
  rampmodePosition : Word
  /-- UNREACHABLE_TARGET. -/
  unreachableTarget : Word
  /-- DATA_CORRUPT_INIT. -/
  dataCorruptInit : Bool
  /-- STALL_EXC_RESET. -/
  stallExcReset : Bool
  /-- VEL_EXC_RESET. -/
  velExcReset : Bool
  /-- MSG. -/
  messages : Messages
  deriving DecidableEq, Repr

/-- The 19 register addresses the block uses, in the order of rule R62's table. -/
def Config.addresses (c : Config) : List RegAddr :=
  [c.regGconf, c.regIholdIrun, c.regTpowerdown, c.regTpwmthrs, c.regRampmode, c.regXactual, Const.regVactual, c.regVstart,
   c.regA1, c.regV1, c.regAmax, c.regVmax, c.regDmax, c.regD1, c.regVstop, c.regXtarget, c.regChopconf, c.regCoolconf,
   Const.regDrvStatus]

/-- The requirements of rule R62 on a configuration: the 19 addresses are pairwise distinct (each is below 0x80 by its
type). -/
abbrev Config.wellFormed (c : Config) : Prop :=
  c.addresses.Nodup

/-! The parameters rule R9 leaves OPEN: constants with no body, so no proof can know them (log 4). -/

opaque Config.openSlaveAddress : Byte
opaque Config.openGconf : Word
opaque Config.openChopconf : Word
opaque Config.openIholdIrun : Word
opaque Config.openTpowerdown : Word
opaque Config.openTpwmthrs : Word
opaque Config.openVstart : Word
opaque Config.openA1 : Word
opaque Config.openV1 : Word
opaque Config.openAmax : Word
opaque Config.openDmax : Word
opaque Config.openD1 : Word
opaque Config.openVstop : Word
opaque Config.openUnreachableTarget : Word

opaque Config.openMessages : Messages

/-- The velocity register value outside the domain [0, 5] of rule R185, where the rule states none (log 30). -/
opaque Config.vregOutsideDomain : Rat → Word

/-- The configuration of State.reset: rule R9's defaults where it gives one, the opaque constants where it says OPEN. -/
def Config.initial : Config where
  slaveAddress := Config.openSlaveAddress
  regGconf := Const.addrGconf
  regChopconf := Const.addrChopconf
  regCoolconf := Const.addrCoolconf
  regIholdIrun := Const.addrIholdIrun
  regTpowerdown := Const.addrTpowerdown
  regTpwmthrs := Const.addrTpwmthrs
  regRampmode := Const.addrRampmode
  regXactual := Const.addrXactual
  regVstart := Const.addrVstart
  regA1 := Const.addrA1
  regV1 := Const.addrV1
  regAmax := Const.addrAmax
  regVmax := Const.addrVmax
  regDmax := Const.addrDmax
  regD1 := Const.addrD1
  regVstop := Const.addrVstop
  regXtarget := Const.addrXtarget
  cfgGconf := Config.openGconf
  cfgChopconf := Config.openChopconf
  cfgCoolconf := Const.coolconfDisabled
  cfgIholdIrun := Config.openIholdIrun
  cfgTpowerdown := Config.openTpowerdown
  cfgTpwmthrs := Config.openTpwmthrs
  cfgVstart := Config.openVstart
  cfgA1 := Config.openA1
  cfgV1 := Config.openV1
  cfgAmax := Config.openAmax
  cfgDmax := Config.openDmax
  cfgD1 := Config.openD1
  cfgVstop := Config.openVstop
  rampmodePosition := Const.rampmodePosition
  unreachableTarget := Config.openUnreachableTarget
  dataCorruptInit := Const.dataCorruptInit
  stallExcReset := Const.stallExcReset
  velExcReset := Const.velExcReset
  messages := Config.openMessages

end Sys2Proof
end

