-- ==== Sys2Proof/Machine/Types.lean ====
section
/-! DEFINITION. The types of the registers of 10_state.md, of the error variants of 60_exceptions.md and of the port events of
00_scope.md. -/

namespace Sys2Proof.Machine

open Sys2Proof

/-- STATE, the lifecycle (R32). -/
inductive Lifecycle where
  | uninitialized
  | configuring
  | running
  | faulted
  | closed
  deriving DecidableEq, Repr

/-- A command of the CMD port with its arguments (R87, R230). -/
inductive Command where
  | start (rps : Rat)
  | setVelocity (rps : Rat)
  | resetPositionCounter
  | checkStatus
  | reset (rps : Rat)
  | enableStallException (b : Bool)
  | enableVelocityException (b : Bool)
  | close
  deriving DecidableEq, Repr

/-- The phase of a step of a micro-program (R38). -/
inductive Phase where
  /-- The micro-operation has not started. -/
  | issue
  /-- A write frame has been sent and its settle has not ended. -/
  | settle
  /-- A read request has been sent and its read transaction has not ended. -/
  | await
  deriving DecidableEq, Repr

/-- SEQ_PC (R38): idle, or the 1-based step `k` of CUR_CMD's micro-program and its phase. -/
inductive SeqPc where
  | idle
  | step (k : Nat) (phase : Phase)
  deriving DecidableEq, Repr

/-- PENDING_REPLY (R39). -/
inductive ReplySlot where
  | empty
  | full (buf : List Byte)
  deriving DecidableEq, Repr

/-- LOCK (R40). -/
inductive LockState where
  | free
  | heldByRequester
  | heldByDelivery
  deriving DecidableEq, Repr

/-- WAKE (R41): why the last wait ended. -/
inductive Wake where
  | none
  | signalled
  | timedOut
  deriving DecidableEq, Repr

/-- A one-shot timer (R268, R269). -/
inductive TimerState where
  | disarmed
  | armed
  deriving DecidableEq, Repr

/-- MotorStatus (R42); the velocity is unsigned (90_conflicts.md C5). -/
structure MotorStatus where
  actualVelocity : Word
  dataCorrupt : Bool
  stall : Bool
  overTempPrewarning : Bool
  overTemp : Bool
  openLoadA : Bool
  openLoadB : Bool
  shortToGroundA : Bool
  shortToGroundB : Bool
  deriving DecidableEq, Repr

/-- The fresh record of rules R43 and R205. -/
def MotorStatus.fresh (dataCorruptInit : Bool) : MotorStatus where
  actualVelocity := 0
  dataCorrupt := dataCorruptInit
  stall := false
  overTempPrewarning := false
  overTemp := false
  openLoadA := false
  openLoadB := false
  shortToGroundA := false
  shortToGroundB := false

/-- The error variants of rule R250. -/
inductive CmdError where
  | portUnavailable
  | openFailed
  | timeout
  | nullOrEmpty
  | wrongLength
  | badSyncOrAddress
  | crcMismatch
  | invalidVelocity
  | configReadbackFailed
  | stall
  | overTemperaturePrewarning
  | overTemperature
  | openLoadA
  | openLoadB
  | shortToGroundA
  | shortToGroundB
  | velocityOutOfBand
  deriving DecidableEq, Repr

/-- The three error classes (R250 to R253). -/
inductive ErrorClass where
  | communicationError
  | dataCorruptError
  | driverError
  deriving DecidableEq, Repr

/-- The value of a command that ends in Ok (R234). -/
inductive CmdValue where
  | unit
  | status (s : MotorStatus)
  | bool (b : Bool)
  deriving DecidableEq, Repr

/-- The one result a command ends in (R14). An error's class, code and message are functions of its variant
(Machine/Errors.lean). -/
inductive CmdResult where
  | ok (v : CmdValue)
  | err (e : CmdError)
  | refused
  deriving DecidableEq, Repr

/-- The LINK's answers to `open()` (R4, R186, R251). -/
inductive OpenAnswer where
  | ok
  | portUnavailable
  | openFailed
  deriving DecidableEq, Repr

/-- One event on an output port (R4): a whole frame on TX, a LINK request with its answer, or a result on CMD. -/
inductive Output where
  | tx (frame : List Byte)
  | linkOpen (answer : OpenAnswer)
  | linkClose (answer : Bool)
  | result (r : CmdResult)
  deriving DecidableEq, Repr

/-- The agents of the step (R140, R258, R274). -/
inductive Agent where
  /-- The caller offers a command on CMD. -/
  | caller
  /-- The sequencer makes its next move. -/
  | requester
  /-- The transport's delivery context makes an RX event. -/
  | delivery
  /-- The read-wait timer expires. -/
  | readTimer
  /-- The write settle ends. -/
  | settleTimer
  deriving DecidableEq, Repr

end Sys2Proof.Machine
end

