-- ==== Sys2Proof/Machine/State.lean ====
section
/-! DEFINITION. The state of the block as plain data: the registers of 10_state.md, the two timers of 60_exceptions.md, the
refusal mark of 45_command_port.md, and the model's own fields (ports, environment, configuration). -/

namespace Sys2Proof.Machine

open Sys2Proof

/-- Reasons the machine stops. The spec has no traps: an error is a command's result, a next state. -/
inductive Fault where
  /-- Raised by the requester's move when SEQ_PC points at no step of CUR_CMD's micro-program, or is in phase Await at a
  micro-operation that reads nothing. The spec says SEQ_PC never gets there (R38, R183, R184); no state that satisfies
  `Safety.Inv` does. Safe: the machine stops where the spec has no state at all (log 20). -/
  | seqOffProgram
  deriving DecidableEq, Repr

/-- Reasons an instruction has no meaning in a state. -/
inductive Refusal where
  /-- An instruction whose arm of exec has no meaning yet. None is left. -/
  | notModelled (mnemonic : String)
  /-- Raised by the meaning of a W or R frame that the micro-operation at SEQ_PC does not issue: the block emits no other
  frame (R61, R86, R184), so no run of the block contains that event. Safe (log 13). -/
  | frameNotIssued
  deriving DecidableEq, Repr

/-- The state of the block. -/
structure State where
  /-- The configuration (R9): no step writes it (model's own field, log 3). -/
  cfg : Config
  /-- STATE (R32). -/
  lifecycle : Lifecycle
  /-- DESIRED_RPS (R33). -/
  desiredRps : Rat
  /-- STALL_EXC_EN (R34). -/
  stallExcEn : Bool
  /-- VEL_EXC_EN (R35). -/
  velExcEn : Bool
  /-- CHANNEL_OPEN (R36). -/
  channelOpen : Bool
  /-- CUR_CMD (R37). -/
  curCmd : Option Command
  /-- SEQ_PC (R38). -/
  seqPc : SeqPc
  /-- PENDING_REPLY (R39). -/
  pendingReply : ReplySlot
  /-- LOCK (R40). -/
  lock : LockState
  /-- WAITING (R41). -/
  waiting : Bool
  /-- WAKE (R41). -/
  wake : Wake
  /-- STATUS_WORK (R43). -/
  statusWork : MotorStatus
  /-- The read-wait timer (R268). -/
  readTimer : TimerState
  /-- The settle timer (R269). -/
  settleTimer : TimerState
  /-- What CLOSE obtained from the LINK, for RET(closeResult) (R183, R238; log 7). -/
  closeResult : Bool
  /-- The refusal mark, kept for the whole run (R231). -/
  refusalMark : Bool
  /-- The events on the output ports so far, oldest first (model's own field, log 19). -/
  outputs : List Output
  /-- The agents that move next, in order (model's own field, log 1). -/
  schedule : List Agent
  /-- Commands the caller offers, oldest first (model's own field, log 2). -/
  cmdIn : List Command
  /-- Buffers the transport has to deliver, oldest first (model's own field, log 2). -/
  rxIn : List (List Byte)
  /-- The LINK's next answers to `open()` (model's own field, log 2). -/
  openAnswers : List OpenAnswer
  /-- The LINK's next answers to `close()` (model's own field, log 2). -/
  closeAnswers : List Bool
  deriving DecidableEq, Repr

/-- The state after block reset of a block with configuration `c` (R9, R291, R292): the configuration is an argument, so that a
claim about reset can quantify over it, the reset values of the enables (D22) among it (log 3). -/
def State.resetWith (c : Config) : State where
  cfg := c
  lifecycle := .uninitialized
  desiredRps := 0
  stallExcEn := c.stallExcReset
  velExcEn := c.velExcReset
  channelOpen := false
  curCmd := none
  seqPc := .idle
  pendingReply := .empty
  lock := .free
  waiting := false
  wake := .none
  statusWork := MotorStatus.fresh c.dataCorruptInit
  readTimer := .disarmed
  settleTimer := .disarmed
  closeResult := false
  refusalMark := false
  outputs := []
  schedule := []
  cmdIn := []
  rxIn := []
  openAnswers := []
  closeAnswers := []

/-- The state after block reset under the configuration of rule R9's values (R291, R292). -/
def State.reset : State :=
  State.resetWith Config.initial

end Sys2Proof.Machine
end

