-- ==== Sys2Proof/Machine/Errors.lean ====
section
/-! DEFINITION. The error taxonomy (60_exceptions.md R250 to R255): class, code and message of each variant, and the two
classes of driver error that decide STATE (R220, R264). -/

namespace Sys2Proof.Machine

open Sys2Proof

/-- The class of each variant (R250). -/
def errorClass : CmdError → ErrorClass
  | .portUnavailable | .openFailed | .timeout | .nullOrEmpty => .communicationError
  | .wrongLength | .badSyncOrAddress | .crcMismatch => .dataCorruptError
  | .invalidVelocity | .configReadbackFailed | .stall | .overTemperaturePrewarning | .overTemperature | .openLoadA
  | .openLoadB | .shortToGroundA | .shortToGroundB | .velocityOutOfBand => .driverError

/-- The code of each variant (R250). -/
def errorCode : CmdError → Byte
  | .portUnavailable => 0x10
  | .openFailed => 0x11
  | .timeout => 0x12
  | .nullOrEmpty => 0x13
  | .wrongLength => 0x20
  | .badSyncOrAddress => 0x21
  | .crcMismatch => 0x22
  | .invalidVelocity => 0x30
  | .configReadbackFailed => 0x31
  | .stall => 0x32
  | .overTemperaturePrewarning => 0x33
  | .overTemperature => 0x34
  | .openLoadA => 0x35
  | .openLoadB => 0x36
  | .shortToGroundA => 0x37
  | .shortToGroundB => 0x38
  | .velocityOutOfBand => 0x39

/-- The message of each variant: Timeout's is the source's, the others are the configuration's parameter MSG (R9, R255,
log 21). -/
def errorMessage (m : Messages) : CmdError → String
  | .timeout => "no reply answer"
  | .portUnavailable => m.portUnavailable
  | .openFailed => m.openFailed
  | .nullOrEmpty => m.nullOrEmpty
  | .wrongLength => m.wrongLength
  | .badSyncOrAddress => m.badSyncOrAddress
  | .crcMismatch => m.crcMismatch
  | .invalidVelocity => m.invalidVelocity
  | .configReadbackFailed => m.configReadbackFailed
  | .stall => m.stall
  | .overTemperaturePrewarning => m.overTemperaturePrewarning
  | .overTemperature => m.overTemperature
  | .openLoadA => m.openLoadA
  | .openLoadB => m.openLoadB
  | .shortToGroundA => m.shortToGroundA
  | .shortToGroundB => m.shortToGroundB
  | .velocityOutOfBand => m.velocityOutOfBand

/-- An error value, `(class, code, message)` (R250). -/
structure ErrorValue where
  errorClass : ErrorClass
  code : Byte
  message : String
  deriving DecidableEq, Repr

/-- What an error records under a configuration: its class, its code and its message, and nothing else (R250, R255). -/
def errorValue (c : Config) (e : CmdError) : ErrorValue where
  errorClass := errorClass e
  code := errorCode e
  message := errorMessage c.messages e

/-- The errors of `checkStatus` that require a reset (R220, R264). -/
def resetRequiring : CmdError → Bool
  | .overTemperature | .openLoadA | .openLoadB | .shortToGroundA | .shortToGroundB | .velocityOutOfBand => true
  | .portUnavailable | .openFailed | .timeout | .nullOrEmpty | .wrongLength | .badSyncOrAddress | .crcMismatch
  | .invalidVelocity | .configReadbackFailed | .stall | .overTemperaturePrewarning => false

/-- The errors of VALIDATE and OPEN, raised before SETSTATE(Configuring) (R194, R254). -/
def beforeConfiguring : CmdError → Bool
  | .invalidVelocity | .portUnavailable | .openFailed => true
  | .timeout | .nullOrEmpty | .wrongLength | .badSyncOrAddress | .crcMismatch | .configReadbackFailed | .stall
  | .overTemperaturePrewarning | .overTemperature | .openLoadA | .openLoadB | .shortToGroundA | .shortToGroundB
  | .velocityOutOfBand => false

/-- STATE after command `c` ends with error `e`: the table of rule R220. -/
def stateAfterError (c : Command) (e : CmdError) (l : Lifecycle) : Lifecycle :=
  match c with
  | .start _ | .reset _ => if beforeConfiguring e then l else .faulted
  | .checkStatus => if resetRequiring e then .faulted else l
  | .setVelocity _ | .resetPositionCounter | .enableStallException _ | .enableVelocityException _ | .close => l

end Sys2Proof.Machine
end

