-- ==== Sys2Proof/Machine/Crc.lean ====
section
/-! DEFINITION. The CRC8 engine (40_crc.md): pure functions, most significant bit first (R111; 90_conflicts.md C13). -/

namespace Sys2Proof.Machine

open Sys2Proof

/-- Iteration `i` of rule R110's loop: it tests bit `7 - i` of `data` against the top bit of the state. -/
def crcIter (data crc : Byte) (i : Nat) : Byte :=
  let b : Byte := (BitVec.ofBool (data.getLsbD (7 - i))).setWidth 8
  if (crc &&& 0x80) ^^^ (b <<< 7) ≠ 0 then (crc <<< 1) ^^^ Const.crcPoly else crc <<< 1

/-- `nextCrc(crc, data)`: the fold of one byte (R110), `i = 0` first. -/
def nextCrc (crc data : Byte) : Byte :=
  [0, 1, 2, 3, 4, 5, 6, 7].foldl (crcIter data) crc

/-- `crcOf(bytes)`: the fold of a byte list, byte 0 first (R112). -/
def crcOf (bytes : List Byte) : Byte :=
  bytes.foldl nextCrc Const.crcInit

/-- One application of the map of rule R115. -/
def crcShift (x : Byte) : Byte :=
  if x.getLsbD 7 then (x <<< 1) ^^^ Const.crcPoly else x <<< 1

/-- `shift8` of rule R115: the map applied eight times. -/
def shift8 (x : Byte) : Byte :=
  crcShift (crcShift (crcShift (crcShift (crcShift (crcShift (crcShift (crcShift x)))))))

end Sys2Proof.Machine
end

