-- ==== Sys2Proof/Machine/Frames.lean ====
section
/-! DEFINITION. The byte layouts of the three frame formats (30_encoding.md R81 to R84) and the frame builders
(41_codec.md R120, R122, R133). Byte 0 is the first byte on the wire; payloads are big-endian (R63). -/

namespace Sys2Proof.Machine

open Sys2Proof

/-- `bytes4(d)`: the four payload bytes, most significant first (R12). -/
def bytes4 (d : Word) : List Byte :=
  [d.extractLsb' 24 8, d.extractLsb' 16 8, d.extractLsb' 8 8, d.extractLsb' 0 8]

/-- `u32(b3, b2, b1, b0)`: big-endian concatenation (R12, R84). -/
def u32 (b3 b2 b1 b0 : Byte) : Word :=
  b3 ++ b2 ++ b1 ++ b0

/-- The register byte of a write frame: `zext_8(reg) | 0x80` (R84, R120). -/
def writeRegByte (reg : RegAddr) : Byte :=
  reg.setWidth 8 ||| Const.writeBit

/-- The register byte of a read-request frame: `zext_8(reg)` (R84, R122). -/
def readRegByte (reg : RegAddr) : Byte :=
  reg.setWidth 8

/-- The register address held in a register byte: its bits 6 to 0 (R81, R82). -/
def regOfByte (b : Byte) : RegAddr :=
  b.setWidth 7

/-- The domain check of rule R123: a register argument with bit 7 set is no register address. -/
def regAddr? (b : Byte) : Option RegAddr :=
  if b.getLsbD 7 then none else some (regOfByte b)

/-- Bytes 0 to 6 of a W frame (R81). -/
def writeHeader (slave : Byte) (reg : RegAddr) (d : Word) : List Byte :=
  [Const.sync, slave, writeRegByte reg] ++ bytes4 d

/-- Bytes 0 to 2 of an R frame (R82). -/
def readHeader (slave : Byte) (reg : RegAddr) : List Byte :=
  [Const.sync, slave, readRegByte reg]

/-- Bytes 0 to 6 of a Y frame (R83). -/
def replyHeader (regByte : Byte) (d : Word) : List Byte :=
  [Const.sync, Const.masterAddress, regByte] ++ bytes4 d

/-- A W frame with a given CRC byte (R81). -/
def writeFrame (slave : Byte) (reg : RegAddr) (d : Word) (crc : Byte) : List Byte :=
  writeHeader slave reg d ++ [crc]

/-- An R frame with a given CRC byte (R82). -/
def readFrame (slave : Byte) (reg : RegAddr) (crc : Byte) : List Byte :=
  readHeader slave reg ++ [crc]

/-- A Y frame with a given CRC byte (R83). -/
def replyFrame (regByte : Byte) (d : Word) (crc : Byte) : List Byte :=
  replyHeader regByte d ++ [crc]

/-- The CRC byte of a W frame: over bytes 0 to 6, the write bit included (R113, R120). -/
def writeCrc (slave : Byte) (reg : RegAddr) (d : Word) : Byte :=
  crcOf (writeHeader slave reg d)

/-- The CRC byte of an R frame: over bytes 0 to 2 (R113, R122). -/
def readCrc (slave : Byte) (reg : RegAddr) : Byte :=
  crcOf (readHeader slave reg)

/-- The CRC byte of a valid Y frame: over bytes 0 to 6 (R113). -/
def replyCrc (regByte : Byte) (d : Word) : Byte :=
  crcOf (replyHeader regByte d)

/-- `encodeWrite(slave, reg, d)` (R120). -/
def encodeWrite (slave : Byte) (reg : RegAddr) (d : Word) : List Byte :=
  writeFrame slave reg d (writeCrc slave reg d)

/-- `encodeRead(slave, reg)` (R122). -/
def encodeRead (slave : Byte) (reg : RegAddr) : List Byte :=
  readFrame slave reg (readCrc slave reg)

/-- `mkReply(r, d)`: a valid reply (R133). -/
def mkReply (regByte : Byte) (d : Word) : List Byte :=
  replyFrame regByte d (replyCrc regByte d)

/-- `encodeWrite` on a register byte, refused outside the encoders' domain (R123). -/
def encodeWrite? (slave regByte : Byte) (d : Word) : Option (List Byte) :=
  (regAddr? regByte).map fun reg => encodeWrite slave reg d

/-- `encodeRead` on a register byte, refused outside the encoders' domain (R123). -/
def encodeRead? (slave regByte : Byte) : Option (List Byte) :=
  (regAddr? regByte).map fun reg => encodeRead slave reg

end Sys2Proof.Machine
end

