-- ==== Sys2Proof/Machine/Codec.lean ====
section
/-! DEFINITION. The reply decoder of the datagram codec (41_codec.md R125 to R132). Pure: it reads and writes no register. -/

namespace Sys2Proof.Machine

open Sys2Proof

/-- A validated reply: the register byte as it stands and the data (R125, R131). -/
structure ValidatedReply where
  regByte : Byte
  data : Word
  deriving DecidableEq, Repr

/-- `decodeReply(buf)` (R126): the first check that fails decides (90_conflicts.md C3; C2 for the empty buffer). -/
def decodeReply : List Byte → Except CmdError ValidatedReply
  | [] => .error .nullOrEmpty
  | [b0, b1, b2, b3, b4, b5, b6, b7] =>
    if b0 ≠ Const.sync ∨ b1 ≠ Const.masterAddress then .error .badSyncOrAddress
    else if crcOf [b0, b1, b2, b3, b4, b5, b6] ≠ b7 then .error .crcMismatch
    else .ok { regByte := b2, data := u32 b3 b4 b5 b6 }
  | _ => .error .wrongLength

end Sys2Proof.Machine
end

