-- ==== Sys2Proof/Machine/Flags.lean ====
section
/-! DEFINITION. The flags: the status decoder (43_status_decoder.md) that sets them, and EVAL's checks (44_sequencer.md
R207 to R210) that read them. -/

namespace Sys2Proof.Machine

open Sys2Proof

/-- The kind of status requested, fixed by the micro-operation and not read from the reply (R161). -/
inductive StatusKind where
  | velocity
  | driverError
  deriving DecidableEq, Repr

/-- The stall flag: bit 24 and `d[15:0] = 0` (R164; 90_conflicts.md C4). -/
def stallFlag (d : Word) : Bool :=
  d.getLsbD 24 && d.extractLsb' 0 16 == 0

/-- The velocity branch of rule R162: unsigned (R163), dataCorrupt cleared (R166). -/
def decodeVelocity (d : Word) (s : MotorStatus) : MotorStatus :=
  { s with actualVelocity := d, dataCorrupt := false }

/-- The driver-status branch of rule R162: all seven flags are written (R165), dataCorrupt cleared (R166). -/
def decodeDriver (d : Word) (s : MotorStatus) : MotorStatus :=
  { s with
    stall := stallFlag d
    overTemp := d.getLsbD 25
    overTempPrewarning := d.getLsbD 26
    shortToGroundA := d.getLsbD 27
    shortToGroundB := d.getLsbD 28
    openLoadA := d.getLsbD 29
    openLoadB := d.getLsbD 30
    dataCorrupt := false }

/-- `decodeStatus(kind, regByte, d, s)` (R160, R162): any other pair leaves `s` as it is (R168). -/
def decodeStatus (kind : StatusKind) (regByte : Byte) (d : Word) (s : MotorStatus) : MotorStatus :=
  match kind with
  | .velocity => if regByte = readRegByte Const.regVactual then decodeVelocity d s else s
  | .driverError => if regByte = readRegByte Const.regDrvStatus then decodeDriver d s else s

/-- `inBand(v, rps)`: exact, inclusive, on the unsigned word (R209; 90_conflicts.md C5). -/
abbrev inBand (v : Word) (rps : Rat) : Prop :=
  Const.bandLow * (rps * Const.ustepsPerRev) ≤ (v.toNat : Rat) ∧ (v.toNat : Rat) ≤ Const.bandHigh * (rps * Const.ustepsPerRev)

/-- EVAL (R207): the first check that holds gives the error. Stall and the band depend on their enables (R208, R209), the
others do not (R210; 90_conflicts.md C12). -/
def evalStatus (s : MotorStatus) (stallExcEn velExcEn : Bool) (rps : Rat) : Option CmdError :=
  if s.stall && stallExcEn then some .stall
  else if s.overTempPrewarning then some .overTemperaturePrewarning
  else if s.overTemp then some .overTemperature
  else if s.openLoadA then some .openLoadA
  else if s.openLoadB then some .openLoadB
  else if s.shortToGroundA then some .shortToGroundA
  else if s.shortToGroundB then some .shortToGroundB
  else if velExcEn = true ∧ ¬ inBand s.actualVelocity rps then some .velocityOutOfBand
  else none

end Sys2Proof.Machine
end

