-- ==== Sys2Proof/Machine/Operands.lean ====
section
/-! DEFINITION. The operand forms of the commands: the velocity argument, its range and its register value
(44_sequencer.md R185, R187). Arithmetic on rationals is exact (R12). -/

namespace Sys2Proof.Machine

open Sys2Proof

/-- The range check of VALIDATE, bounds inclusive (R187). -/
abbrev validRps (rps : Rat) : Prop :=
  Const.minVelocity ≤ rps ∧ rps ≤ Const.maxVelocity

/-- `vreg(rps) = floor(rps × 51200)` as a u32 on its domain [0, 5] (R185); outside it the rule states no value and the
result is a free one (log 30). -/
def vreg (rps : Rat) : Word :=
  if validRps rps then BitVec.ofInt 32 (rps * Const.ustepsPerRev).floor else Config.vregOutsideDomain rps

end Sys2Proof.Machine
end

