-- ==== Sys2Proof/Machine/Microprogram.lean ====
section
/-! DEFINITION. The micro-operations (44_sequencer.md R182) and the fixed micro-programs (R183, R192), as functions of the
configuration and of the command's arguments. -/

namespace Sys2Proof.Machine

open Sys2Proof

/-- Which exception-enable flag SETFLAG writes (R236, R237). -/
inductive ExcFlag where
  | stall
  | velocity
  deriving DecidableEq, Repr

/-- What RET returns (R183, R234). -/
inductive RetValue where
  | unit
  | statusWork
  | closeResult
  deriving DecidableEq, Repr

/-- The micro-operation set (R182). -/
inductive MicroOp where
  /-- VALIDATE (R187). -/
  | validate (rps : Rat)
  /-- OPEN (R186). -/
  | openLink
  /-- SETSTATE (R189). -/
  | setState (l : Lifecycle)
  /-- SETRPS (R188). -/
  | setRps (rps : Rat)
  /-- W (R190). -/
  | write (reg : RegAddr) (value : Word)
  /-- RB (R191). -/
  | readBack (reg : RegAddr) (expected : Word)
  /-- POWERCYCLE (R214). -/
  | powerCycle
  /-- FRESH (R205). -/
  | fresh
  /-- RS (R206). -/
  | readStatus (kind : StatusKind) (reg : RegAddr)
  /-- EVAL (R207). -/
  | eval
  /-- SETFLAG (R236, R237). -/
  | setFlag (which : ExcFlag) (b : Bool)
  /-- CLOSE (R238). -/
  | closeLink
  /-- RET (R184). -/
  | ret (v : RetValue)
  deriving DecidableEq, Repr

/-- W1 to W17 of rule R192. -/
def configWrites (cfg : Config) (rps : Rat) : List MicroOp :=
  [.write cfg.regGconf cfg.cfgGconf,
   .write cfg.regChopconf cfg.cfgChopconf,
   .write cfg.regCoolconf cfg.cfgCoolconf,
   .write cfg.regIholdIrun cfg.cfgIholdIrun,
   .write cfg.regTpowerdown cfg.cfgTpowerdown,
   .write cfg.regTpwmthrs cfg.cfgTpwmthrs,
   .write cfg.regXtarget Const.positionResetValue,
   .write cfg.regXactual Const.positionResetValue,
   .write cfg.regVstart cfg.cfgVstart,
   .write cfg.regA1 cfg.cfgA1,
   .write cfg.regV1 cfg.cfgV1,
   .write cfg.regAmax cfg.cfgAmax,
   .write cfg.regVmax (vreg rps),
   .write cfg.regDmax cfg.cfgDmax,
   .write cfg.regD1 cfg.cfgD1,
   .write cfg.regVstop cfg.cfgVstop,
   .write cfg.regRampmode cfg.rampmodePosition]

/-- RB1 to RB4 of rule R192. -/
def configReadBacks (cfg : Config) : List MicroOp :=
  [.readBack cfg.regGconf cfg.cfgGconf,
   .readBack cfg.regChopconf cfg.cfgChopconf,
   .readBack cfg.regXactual Const.positionResetValue,
   .readBack cfg.regRampmode cfg.rampmodePosition]

/-- CONFIG_BODY(rps): 25 steps (R183), WS among them (R192). -/
def configBody (cfg : Config) (rps : Rat) : List MicroOp :=
  [.setState .configuring, .setRps rps] ++ configWrites cfg rps ++ configReadBacks cfg ++
    [.write cfg.regXtarget cfg.unreachableTarget, .setState .running]

/-- The micro-program of each command (R183). -/
def microProgram (cfg : Config) : Command → List MicroOp
  | .start rps => [.validate rps, .openLink] ++ configBody cfg rps ++ [.ret .unit]
  | .setVelocity rps => [.validate rps, .setRps rps, .write cfg.regVmax (vreg rps), .ret .unit]
  | .resetPositionCounter => [.write cfg.regXactual Const.positionResetValue, .ret .unit]
  | .checkStatus =>
    [.fresh, .readStatus .velocity Const.regVactual, .readStatus .driverError Const.regDrvStatus, .eval, .ret .statusWork]
  | .reset rps => [.validate rps, .powerCycle] ++ configBody cfg rps ++ [.ret .unit]
  | .enableStallException b => [.setFlag .stall b, .ret .unit]
  | .enableVelocityException b => [.setFlag .velocity b, .ret .unit]
  | .close => [.closeLink, .ret .closeResult]

/-- The micro-operation at step `k` of command `c`; `k` is 1-based (R38). -/
def microOpAt (cfg : Config) (c : Command) : Nat → Option MicroOp
  | 0 => none
  | k + 1 => (microProgram cfg c)[k]?

/-- The micro-operation SEQ_PC points at, if there is one. -/
def State.currentOp (s : State) : Option MicroOp :=
  match s.curCmd, s.seqPc with
  | some c, .step k _ => microOpAt s.cfg c k
  | _, _ => none

end Sys2Proof.Machine
end

