-- ==== Sys2Proof/Machine/Ops.lean ====
section
/-! DEFINITION. The named operations over the state: port outputs, the position of the sequencer, the read transaction unit,
the settle, raising an error (the block's exception entry, R262) and returning, and the operations the meanings share. -/

namespace Sys2Proof.Machine

open Sys2Proof

/-! ### Ports and position -/

/-- One event on an output port. -/
def State.emit (s : State) (o : Output) : State :=
  { s with outputs := s.outputs ++ [o] }

/-- A micro-operation completes: SEQ_PC goes from `(k, _)` to `(k+1, Issue)` (R38, R184). -/
def State.advance (s : State) : State :=
  match s.seqPc with
  | .step k _ => { s with seqPc := .step (k + 1) .issue }
  | .idle => s

/-- SEQ_PC's phase changes within its step (R38). -/
def State.setPhase (s : State) (p : Phase) : State :=
  match s.seqPc with
  | .step k _ => { s with seqPc := .step k p }
  | .idle => s

/-- The command in progress ends with one result on CMD: SEQ_PC <- Idle, CUR_CMD <- None (R184, R262). -/
def State.finish (s : State) (r : CmdResult) : State :=
  { s.emit (.result r) with seqPc := .idle, curCmd := none }

/-! ### Raising an error and returning -/

/-- `raise e` (R262): the CMD port emits `Err(e)`, STATE changes as rule R220 says, SEQ_PC <- Idle, CUR_CMD <- None, nothing
else changes. There is no return from an error (R264). -/
def State.raise (s : State) (e : CmdError) : State :=
  let l := match s.curCmd with
    | some c => stateAfterError c e s.lifecycle
    | none => s.lifecycle
  { s.finish (.err e) with lifecycle := l }

/-- `RET(v)` (R184). -/
def State.retOk (s : State) (v : CmdValue) : State :=
  s.finish (.ok v)

/-! ### The write path -/

/-- W's issue (R190): one TX event, phase Settle, the settle timer armed (R269). -/
def State.issueWrite (s : State) (frame : List Byte) : State :=
  { (s.emit (.tx frame)).setPhase .settle with settleTimer := .armed }

/-- The end of a write settle (R190, R258): with the timer armed and SEQ_PC in phase Settle, the W completes and the timer is
disarmed; otherwise there is no such event and nothing changes (log 17). -/
def State.settleEnd (s : State) : State :=
  match s.seqPc, s.settleTimer with
  | .step _ .settle, .armed => { s.advance with settleTimer := .disarmed }
  | _, _ => s

/-! ### The read transaction unit (42_coordinator.md) -/

/-- Step A of a read (R141, R142, R143), one transition (R144): LOCK is taken, the slot cleared, the request sent, the wait
entered with LOCK released and the timer armed. -/
def State.issueRead (s : State) (frame : List Byte) : State :=
  let s := { s with lock := .heldByRequester }
  let s := { s with pendingReply := .empty }
  let s := s.emit (.tx frame)
  let s := { s with waiting := true, wake := .none }
  let s := { s with lock := .free, readTimer := .armed }
  s.setPhase .await

/-- `deposit(buf)` (R145), for a state whose LOCK is Free: the slot is overwritten and a waiting requester signalled. -/
def State.deposit (s : State) (buf : List Byte) : State :=
  let s := { s with lock := .heldByDelivery }
  let s := { s with pendingReply := .full buf }
  let s := { s with wake := if s.waiting then .signalled else s.wake }
  { s with lock := .free }

/-- The expiry of the read wait (R147, R258, R268): while WAITING is set and WAKE is None it sets WAKE to TimedOut; an expiry
at any other time has no effect. -/
def State.readTimeout (s : State) : State :=
  if s.waiting = true ∧ s.wake = .none ∧ s.readTimer = .armed then { s with wake := .timedOut, readTimer := .disarmed } else s

/-- Step B is enabled: the wait has ended and LOCK can be taken (R146). -/
def State.wakeReady (s : State) : Bool :=
  s.waiting && s.wake != .none && s.lock == .free

/-- Step B's effect on the registers (R146, R268): WAITING cleared, the timer disarmed, LOCK taken and released; the slot and
WAKE are left as they are. -/
def State.endWait (s : State) : State :=
  let s := { s with lock := .heldByRequester, waiting := false, readTimer := .disarmed }
  { s with lock := .free }

/-- What step B returns: the slot's buffer, or Timeout when it is empty (R146). -/
def State.slotResult (s : State) : Except CmdError (List Byte) :=
  match s.pendingReply with
  | .full buf => .ok buf
  | .empty => .error .timeout

/-- `RegRead` once the wait has ended: the slot's result, then decodeReply (R152). -/
def State.readResult (s : State) : Except CmdError ValidatedReply :=
  match s.slotResult with
  | .ok buf => decodeReply buf
  | .error e => .error e

/-! ### What the meanings share -/

/-- The W frame the sequencer issues next, if its micro-operation is a W not yet started (R190). -/
def State.issuedWrite (s : State) : Option (List Byte) :=
  match s.seqPc, s.currentOp with
  | .step _ .issue, some (.write reg v) => some (encodeWrite s.cfg.slaveAddress reg v)
  | _, _ => none

/-- The R frame the sequencer issues next, if its micro-operation is a read not yet started (R141, R191, R206). -/
def State.issuedRead (s : State) : Option (List Byte) :=
  match s.seqPc, s.currentOp with
  | .step _ .issue, some (.readBack reg _) => some (encodeRead s.cfg.slaveAddress reg)
  | .step _ .issue, some (.readStatus _ reg) => some (encodeRead s.cfg.slaveAddress reg)
  | _, _ => none

/-- A W frame goes out on TX: the frame the sequencer's W issues, and no other (R61, R86, R184; log 13). -/
def transmitWrite (frame : List Byte) (s : State) : Host.Outcome State Fault Refusal :=
  if s.issuedWrite = some frame then .next (s.issueWrite frame) else .refused .frameNotIssued

/-- An R frame goes out on TX: the frame the sequencer's read issues, and no other. While LOCK is held step A cannot start
(R142): it waits and nothing changes. -/
def transmitRead (frame : List Byte) (s : State) : Host.Outcome State Fault Refusal :=
  if s.issuedRead = some frame then
    if s.lock = .free then .next (s.issueRead frame) else .next s
  else .refused .frameNotIssued

/-- An RX event delivers a buffer (R145). While LOCK is held the event is not enabled: it is delayed and nothing changes. -/
def receive (buf : List Byte) (s : State) : Host.Outcome State Fault Refusal :=
  if s.lock = .free then .next (s.deposit buf) else .next s

/-- What the command port does with a command (R232). -/
inductive Admission where
  | accept
  | refuse
  | busy
  deriving DecidableEq, Repr

/-- The legality table of rule R232. -/
def admission (l : Lifecycle) (c : Command) : Admission :=
  match l with
  | .configuring => .busy
  | .uninitialized =>
    match c with
    | .start _ | .enableStallException _ | .enableVelocityException _ => .accept
    | .setVelocity _ | .resetPositionCounter | .checkStatus | .reset _ | .close => .refuse
  | .running | .faulted =>
    match c with
    | .start _ => .refuse
    | .setVelocity _ | .resetPositionCounter | .checkStatus | .reset _ | .enableStallException _
    | .enableVelocityException _ | .close => .accept
  | .closed =>
    match c with
    | .enableStallException _ | .enableVelocityException _ => .accept
    | .start _ | .setVelocity _ | .resetPositionCounter | .checkStatus | .reset _ | .close => .refuse

/-- The port has a move for a command: none is in progress and STATE is not Configuring (R231, R232). -/
def State.portReady (s : State) : Bool :=
  s.curCmd.isNone && s.lifecycle != .configuring

/-- A command on the CMD port (R231): no move while the port is busy (log 15); accepted, it becomes CUR_CMD with SEQ_PC at
(1, Issue); refused, it leaves the refusal mark and the result of rule R14, and no register changes (log 14). -/
def submit (c : Command) (s : State) : Host.Outcome State Fault Refusal :=
  if s.portReady then
    match admission s.lifecycle c with
    | .accept => .next { s with curCmd := some c, seqPc := .step 1 .issue }
    | .refuse => .next { s.emit (.result .refused) with refusalMark := true }
    | .busy => .next s
  else .next s

end Sys2Proof.Machine
end

