-- ==== Sys2Proof/Machine/Commands.lean ====
section
/-! DEFINITION. The meanings of the commands: the CMD port's answer to the command (R231, R232). An accepted command's
micro-program (R183) then runs one move at a time: Machine/Sequencer.lean. -/

namespace Sys2Proof.Machine

open Sys2Proof

/-- `start` (R193, R231). -/
def execStart (rps : Rat) (s : State) : Host.Outcome State Fault Refusal :=
  submit (.start rps) s

/-- `setVelocity` (R195, R231). -/
def execSetVelocity (rps : Rat) (s : State) : Host.Outcome State Fault Refusal :=
  submit (.setVelocity rps) s

/-- `resetPositionCounter` (R196, R231). -/
def execResetPositionCounter (s : State) : Host.Outcome State Fault Refusal :=
  submit .resetPositionCounter s

/-- `checkStatus` (R211, R231). -/
def execCheckStatus (s : State) : Host.Outcome State Fault Refusal :=
  submit .checkStatus s

/-- `reset` (R213, R231). -/
def execReset (rps : Rat) (s : State) : Host.Outcome State Fault Refusal :=
  submit (.reset rps) s

/-- `enableStallException` (R236, R231). -/
def execEnableStallException (b : Bool) (s : State) : Host.Outcome State Fault Refusal :=
  submit (.enableStallException b) s

/-- `enableVelocityException` (R237, R231). -/
def execEnableVelocityException (b : Bool) (s : State) : Host.Outcome State Fault Refusal :=
  submit (.enableVelocityException b) s

/-- `close` (R238, R231). -/
def execClose (s : State) : Host.Outcome State Fault Refusal :=
  submit .close s

end Sys2Proof.Machine
end

