-- ==== Sys2Proof/Syntax.lean ====
section
/-! DEFINITION. The instructions: one constructor for each row of spec/opcode_table.json (R3, R86, R87). -/

namespace Sys2Proof

/-- The 36 rows of the opcode table. Wire frames carry every field the table leaves free, the CRC byte among them; the
per-register rows have their register field fixed to the default address of 20_memory.md rule R62 (log 12). Commands
carry their typed arguments (R87) and have no bits. -/
inductive Instr where
  /-- Generic write frame, `00000101 ssssssss 1aaaaaaa d… cccccccc` (R81). -/
  | w (slave : Byte) (reg : RegAddr) (d : Word) (crc : Byte)
  /-- Generic read-request frame, `00000101 ssssssss 0aaaaaaa cccccccc` (R82). -/
  | r (slave : Byte) (reg : RegAddr) (crc : Byte)
  /-- Generic reply frame, `00000101 11111111 rrrrrrrr d… cccccccc` (R83). -/
  | y (regByte : Byte) (d : Word) (crc : Byte)
  | wGconf (slave : Byte) (d : Word) (crc : Byte)
  | wChopconf (slave : Byte) (d : Word) (crc : Byte)
  | wCoolconf (slave : Byte) (d : Word) (crc : Byte)
  | wIholdIrun (slave : Byte) (d : Word) (crc : Byte)
  | wTpowerdown (slave : Byte) (d : Word) (crc : Byte)
  | wTpwmthrs (slave : Byte) (d : Word) (crc : Byte)
  | wXtarget (slave : Byte) (d : Word) (crc : Byte)
  | wXactual (slave : Byte) (d : Word) (crc : Byte)
  | wVstart (slave : Byte) (d : Word) (crc : Byte)
  | wA1 (slave : Byte) (d : Word) (crc : Byte)
  | wV1 (slave : Byte) (d : Word) (crc : Byte)
  | wAmax (slave : Byte) (d : Word) (crc : Byte)
  | wVmax (slave : Byte) (d : Word) (crc : Byte)
  | wDmax (slave : Byte) (d : Word) (crc : Byte)
  | wD1 (slave : Byte) (d : Word) (crc : Byte)
  | wVstop (slave : Byte) (d : Word) (crc : Byte)
  | wRampmode (slave : Byte) (d : Word) (crc : Byte)
  | rGconf (slave : Byte) (crc : Byte)
  | rChopconf (slave : Byte) (crc : Byte)
  | rXactual (slave : Byte) (crc : Byte)
  | rRampmode (slave : Byte) (crc : Byte)
  | rVactual (slave : Byte) (crc : Byte)
  | rDrvStatus (slave : Byte) (crc : Byte)
  /-- Reply for the actual-velocity register, regByte 0x22 (R162). -/
  | yVactual (d : Word) (crc : Byte)
  /-- Reply for the driver-status register, regByte 0x6F (R162). -/
  | yDrvStatus (d : Word) (crc : Byte)
  /-- `start(rps)` (R193). -/
  | start (rps : Rat)
  /-- `setVelocity(rps)` (R195). -/
  | setVelocity (rps : Rat)
  /-- `resetPositionCounter()` (R196). -/
  | resetPositionCounter
  /-- `checkStatus()` (R211). -/
  | checkStatus
  /-- `reset(rps)` (R213). -/
  | reset (rps : Rat)
  /-- `enableStallException(b)` (R236). -/
  | enableStallException (b : Bool)
  /-- `enableVelocityException(b)` (R237). -/
  | enableVelocityException (b : Bool)
  /-- `close()` (R238). -/
  | close
  deriving DecidableEq, Repr

end Sys2Proof
end

