-- ==== Sys2Proof/WellFormed.lean ====
section
/-! DEFINITION. Which instructions are well formed: a frame's CRC byte is the CRC of the bytes before it (R113), and a
generic row does not name a register that has a row of its own (R86: "A per-register row refines its generic row"). A
register address has 7 bits by its type (R10, R123). A command is well formed with any argument: a velocity outside
[0, 5] is answered by an error, not refused (R187). -/

namespace Sys2Proof

open Sys2Proof.Machine

/-- The register fields of the 17 per-register W rows (R86). -/
def namedWriteRegs : List RegAddr :=
  [Const.addrGconf, Const.addrChopconf, Const.addrCoolconf, Const.addrIholdIrun, Const.addrTpowerdown, Const.addrTpwmthrs,
   Const.addrXtarget, Const.addrXactual, Const.addrVstart, Const.addrA1, Const.addrV1, Const.addrAmax, Const.addrVmax,
   Const.addrDmax, Const.addrD1, Const.addrVstop, Const.addrRampmode]

/-- The register fields of the 6 per-register R rows (R86). -/
def namedReadRegs : List RegAddr :=
  [Const.addrGconf, Const.addrChopconf, Const.addrXactual, Const.addrRampmode, Const.regVactual, Const.regDrvStatus]

/-- The register bytes of the 2 per-register Y rows (R86, R162). -/
def namedReplyRegs : List Byte :=
  [readRegByte Const.regVactual, readRegByte Const.regDrvStatus]

/-- The checks above, one line for each constructor. -/
def Instr.wf : Instr → Bool
  | .w slave reg d crc => crc == writeCrc slave reg d && !namedWriteRegs.contains reg
  | .r slave reg crc => crc == readCrc slave reg && !namedReadRegs.contains reg
  | .y regByte d crc => crc == replyCrc regByte d && !namedReplyRegs.contains regByte
  | .wGconf slave d crc => crc == writeCrc slave Const.addrGconf d
  | .wChopconf slave d crc => crc == writeCrc slave Const.addrChopconf d
  | .wCoolconf slave d crc => crc == writeCrc slave Const.addrCoolconf d
  | .wIholdIrun slave d crc => crc == writeCrc slave Const.addrIholdIrun d
  | .wTpowerdown slave d crc => crc == writeCrc slave Const.addrTpowerdown d
  | .wTpwmthrs slave d crc => crc == writeCrc slave Const.addrTpwmthrs d
  | .wXtarget slave d crc => crc == writeCrc slave Const.addrXtarget d
  | .wXactual slave d crc => crc == writeCrc slave Const.addrXactual d
  | .wVstart slave d crc => crc == writeCrc slave Const.addrVstart d
  | .wA1 slave d crc => crc == writeCrc slave Const.addrA1 d
  | .wV1 slave d crc => crc == writeCrc slave Const.addrV1 d
  | .wAmax slave d crc => crc == writeCrc slave Const.addrAmax d
  | .wVmax slave d crc => crc == writeCrc slave Const.addrVmax d
  | .wDmax slave d crc => crc == writeCrc slave Const.addrDmax d
  | .wD1 slave d crc => crc == writeCrc slave Const.addrD1 d
  | .wVstop slave d crc => crc == writeCrc slave Const.addrVstop d
  | .wRampmode slave d crc => crc == writeCrc slave Const.addrRampmode d
  | .rGconf slave crc => crc == readCrc slave Const.addrGconf
  | .rChopconf slave crc => crc == readCrc slave Const.addrChopconf
  | .rXactual slave crc => crc == readCrc slave Const.addrXactual
  | .rRampmode slave crc => crc == readCrc slave Const.addrRampmode
  | .rVactual slave crc => crc == readCrc slave Const.regVactual
  | .rDrvStatus slave crc => crc == readCrc slave Const.regDrvStatus
  | .yVactual d crc => crc == replyCrc (readRegByte Const.regVactual) d
  | .yDrvStatus d crc => crc == replyCrc (readRegByte Const.regDrvStatus) d
  | .start _ => true
  | .setVelocity _ => true
  | .resetPositionCounter => true
  | .checkStatus => true
  | .reset _ => true
  | .enableStallException _ => true
  | .enableVelocityException _ => true
  | .close => true

/-- An instruction is well formed when its checks hold. -/
abbrev WellFormed (i : Instr) : Prop :=
  i.wf = true

end Sys2Proof
end

