-- ==== Sys2Proof/Decode.lean ====
section
/-! DEFINITION. The decoder of the three frame formats, total on any bytes, rejecting by name, and after it the encoder
(30_encoding.md R80 to R89). A W and a Y frame can be the same bytes (slave address 0xFF, register byte with bit 7 set):
only the port they pass tells them apart (R80), so decoding takes the port (log 11). The CRC byte is a field: the masks of
the opcode table leave it free (R86), and well-formedness checks it (log 10). -/

namespace Sys2Proof

open Sys2Proof.Machine

/-- The port an instruction passes (R4, R80). -/
inductive Port where
  /-- Commands: no bit encoding (R87). -/
  | cmd
  /-- Frames the block emits: W and R. -/
  | tx
  /-- Frames the block accepts: Y. -/
  | rx
  deriving DecidableEq, Repr

/-- Why a byte string is no frame of a port. -/
inductive Reject where
  /-- No bytes at all. -/
  | empty
  /-- A length that is not one of the port's frame lengths (R80). -/
  | wrongLength
  /-- Byte 0 is not SYNC. -/
  | badSync
  /-- Byte 1 of a reply is not MASTER_ADDRESS (R83). -/
  | badMaster
  /-- An 8-byte TX frame whose bit 7 of byte 2 is clear (R81). -/
  | noWriteBit
  /-- A 4-byte TX frame whose bit 7 of byte 2 is set (R82). -/
  | writeBitInRead
  /-- Commands have no bit encoding (R87). -/
  | commandHasNoBits
  deriving DecidableEq, Repr

/-- The W row a write frame's fields belong to: the per-register rows first, then the generic one (R86). -/
def writeInstr (slave : Byte) (reg : RegAddr) (d : Word) (crc : Byte) : Instr :=
  if reg = Const.addrGconf then .wGconf slave d crc
  else if reg = Const.addrChopconf then .wChopconf slave d crc
  else if reg = Const.addrCoolconf then .wCoolconf slave d crc
  else if reg = Const.addrIholdIrun then .wIholdIrun slave d crc
  else if reg = Const.addrTpowerdown then .wTpowerdown slave d crc
  else if reg = Const.addrTpwmthrs then .wTpwmthrs slave d crc
  else if reg = Const.addrXtarget then .wXtarget slave d crc
  else if reg = Const.addrXactual then .wXactual slave d crc
  else if reg = Const.addrVstart then .wVstart slave d crc
  else if reg = Const.addrA1 then .wA1 slave d crc
  else if reg = Const.addrV1 then .wV1 slave d crc
  else if reg = Const.addrAmax then .wAmax slave d crc
  else if reg = Const.addrVmax then .wVmax slave d crc
  else if reg = Const.addrDmax then .wDmax slave d crc
  else if reg = Const.addrD1 then .wD1 slave d crc
  else if reg = Const.addrVstop then .wVstop slave d crc
  else if reg = Const.addrRampmode then .wRampmode slave d crc
  else .w slave reg d crc

/-- The R row a read-request frame's fields belong to (R86). -/
def readInstr (slave : Byte) (reg : RegAddr) (crc : Byte) : Instr :=
  if reg = Const.addrGconf then .rGconf slave crc
  else if reg = Const.addrChopconf then .rChopconf slave crc
  else if reg = Const.addrXactual then .rXactual slave crc
  else if reg = Const.addrRampmode then .rRampmode slave crc
  else if reg = Const.regVactual then .rVactual slave crc
  else if reg = Const.regDrvStatus then .rDrvStatus slave crc
  else .r slave reg crc

/-- The Y row a reply frame's fields belong to: regByte is compared as a whole byte (R86, R89). -/
def replyInstr (regByte : Byte) (d : Word) (crc : Byte) : Instr :=
  if regByte = readRegByte Const.regVactual then .yVactual d crc
  else if regByte = readRegByte Const.regDrvStatus then .yDrvStatus d crc
  else .y regByte d crc

/-- An 8-byte TX frame (R81). -/
def decodeWrite (b0 b1 b2 b3 b4 b5 b6 b7 : Byte) : Except Reject Instr :=
  if b0 ≠ Const.sync then .error .badSync
  else if b2.getLsbD 7 then .ok (writeInstr b1 (regOfByte b2) (u32 b3 b4 b5 b6) b7)
  else .error .noWriteBit

/-- A 4-byte TX frame (R82). -/
def decodeRead (b0 b1 b2 b3 : Byte) : Except Reject Instr :=
  if b0 ≠ Const.sync then .error .badSync
  else if b2.getLsbD 7 then .error .writeBitInRead
  else .ok (readInstr b1 (regOfByte b2) b3)

/-- An 8-byte RX frame (R83). -/
def decodeReplyFrame (b0 b1 b2 b3 b4 b5 b6 b7 : Byte) : Except Reject Instr :=
  if b0 ≠ Const.sync then .error .badSync
  else if b1 ≠ Const.masterAddress then .error .badMaster
  else .ok (replyInstr b2 (u32 b3 b4 b5 b6) b7)

/-- The decoder: the instruction whose frame these bytes are on this port, or the reason they are none. -/
def decode : Port → List Byte → Except Reject Instr
  | .cmd, _ => .error .commandHasNoBits
  | _, [] => .error .empty
  | .tx, [b0, b1, b2, b3] => decodeRead b0 b1 b2 b3
  | .tx, [b0, b1, b2, b3, b4, b5, b6, b7] => decodeWrite b0 b1 b2 b3 b4 b5 b6 b7
  | .rx, [b0, b1, b2, b3, b4, b5, b6, b7] => decodeReplyFrame b0 b1 b2 b3 b4 b5 b6 b7
  | _, _ => .error .wrongLength

/-- The port of each instruction (R80). -/
def Instr.port : Instr → Port
  | .w .. | .wGconf .. | .wChopconf .. | .wCoolconf .. | .wIholdIrun .. | .wTpowerdown .. | .wTpwmthrs .. | .wXtarget ..
  | .wXactual .. | .wVstart .. | .wA1 .. | .wV1 .. | .wAmax .. | .wVmax .. | .wDmax .. | .wD1 .. | .wVstop ..
  | .wRampmode .. => .tx
  | .r .. | .rGconf .. | .rChopconf .. | .rXactual .. | .rRampmode .. | .rVactual .. | .rDrvStatus .. => .tx
  | .y .. | .yVactual .. | .yDrvStatus .. => .rx
  | .start _ | .setVelocity _ | .resetPositionCounter | .checkStatus | .reset _ | .enableStallException _
  | .enableVelocityException _ | .close => .cmd

/-- The encoder: the bytes of an instruction's frame; a command has none (R87, log 25). -/
def encode : Instr → List Byte
  | .w slave reg d crc => writeFrame slave reg d crc
  | .r slave reg crc => readFrame slave reg crc
  | .y regByte d crc => replyFrame regByte d crc
  | .wGconf slave d crc => writeFrame slave Const.addrGconf d crc
  | .wChopconf slave d crc => writeFrame slave Const.addrChopconf d crc
  | .wCoolconf slave d crc => writeFrame slave Const.addrCoolconf d crc
  | .wIholdIrun slave d crc => writeFrame slave Const.addrIholdIrun d crc
  | .wTpowerdown slave d crc => writeFrame slave Const.addrTpowerdown d crc
  | .wTpwmthrs slave d crc => writeFrame slave Const.addrTpwmthrs d crc
  | .wXtarget slave d crc => writeFrame slave Const.addrXtarget d crc
  | .wXactual slave d crc => writeFrame slave Const.addrXactual d crc
  | .wVstart slave d crc => writeFrame slave Const.addrVstart d crc
  | .wA1 slave d crc => writeFrame slave Const.addrA1 d crc
  | .wV1 slave d crc => writeFrame slave Const.addrV1 d crc
  | .wAmax slave d crc => writeFrame slave Const.addrAmax d crc
  | .wVmax slave d crc => writeFrame slave Const.addrVmax d crc
  | .wDmax slave d crc => writeFrame slave Const.addrDmax d crc
  | .wD1 slave d crc => writeFrame slave Const.addrD1 d crc
  | .wVstop slave d crc => writeFrame slave Const.addrVstop d crc
  | .wRampmode slave d crc => writeFrame slave Const.addrRampmode d crc
  | .rGconf slave crc => readFrame slave Const.addrGconf crc
  | .rChopconf slave crc => readFrame slave Const.addrChopconf crc
  | .rXactual slave crc => readFrame slave Const.addrXactual crc
  | .rRampmode slave crc => readFrame slave Const.addrRampmode crc
  | .rVactual slave crc => readFrame slave Const.regVactual crc
  | .rDrvStatus slave crc => readFrame slave Const.regDrvStatus crc
  | .yVactual d crc => replyFrame (readRegByte Const.regVactual) d crc
  | .yDrvStatus d crc => replyFrame (readRegByte Const.regDrvStatus) d crc
  | .start _ => []
  | .setVelocity _ => []
  | .resetPositionCounter => []
  | .checkStatus => []
  | .reset _ => []
  | .enableStallException _ => []
  | .enableVelocityException _ => []
  | .close => []

/-- The `n` bytes of a word, byte 0 most significant (`word(f)` of rule R11, read backwards). -/
def wordBytes : Nat → Nat → List Byte
  | 0, _ => []
  | n + 1, w => BitVec.ofNat 8 (w / 256 ^ n) :: wordBytes n w

/-- The instruction of a table word of `nbits` bits: a frame is one word, byte 0 most significant (R11). The table names no
port, so a word that is both a W and a Y frame reads as W, the earlier row (R86; log 11). -/
def decodeTableWord (nbits w : Nat) : Option Instr :=
  match decode .tx (wordBytes (nbits / 8) w) with
  | .ok i => some i
  | .error _ => (decode .rx (wordBytes (nbits / 8) w)).toOption

end Sys2Proof
end

