-- ==== Sys2Proof/Machine/ReadFrames.lean ====
section
/-! DEFINITION. The meanings of the read-request frames: the block transmits the frame as step A of a read transaction
(R141 to R144). Step B, which takes the reply, is the sequencer's (Machine/Sequencer.lean). -/

namespace Sys2Proof.Machine

open Sys2Proof

/-- R, any register (R122, R141). -/
def execR (slave : Byte) (reg : RegAddr) (crc : Byte) (s : State) : Host.Outcome State Fault Refusal :=
  transmitRead (encode (.r slave reg crc)) s

/-- R.GCONF: RB1, R191. -/
def execRGconf (slave : Byte) (crc : Byte) (s : State) : Host.Outcome State Fault Refusal :=
  transmitRead (encode (.rGconf slave crc)) s

/-- R.CHOPCONF: RB2, R191. -/
def execRChopconf (slave : Byte) (crc : Byte) (s : State) : Host.Outcome State Fault Refusal :=
  transmitRead (encode (.rChopconf slave crc)) s

/-- R.XACTUAL: RB3, R191. -/
def execRXactual (slave : Byte) (crc : Byte) (s : State) : Host.Outcome State Fault Refusal :=
  transmitRead (encode (.rXactual slave crc)) s

/-- R.RAMPMODE: RB4, R191. -/
def execRRampmode (slave : Byte) (crc : Byte) (s : State) : Host.Outcome State Fault Refusal :=
  transmitRead (encode (.rRampmode slave crc)) s

/-- R.VACTUAL: the first read of `checkStatus`, R206. -/
def execRVactual (slave : Byte) (crc : Byte) (s : State) : Host.Outcome State Fault Refusal :=
  transmitRead (encode (.rVactual slave crc)) s

/-- R.DRV_STATUS: the second read of `checkStatus`, R206. -/
def execRDrvStatus (slave : Byte) (crc : Byte) (s : State) : Host.Outcome State Fault Refusal :=
  transmitRead (encode (.rDrvStatus slave crc)) s

end Sys2Proof.Machine
end

