-- ==== Sys2Proof/Machine/ReplyFrames.lean ====
section
/-! DEFINITION. The meanings of the reply frames: an RX event deposits the frame's bytes in the reply slot (R145), whatever
its CRC byte is. The frame is validated (R126) and its status decoded (R162) when the requester takes it in step B of its
read (R146, R152, R206): Machine/Sequencer.lean. -/

namespace Sys2Proof.Machine

open Sys2Proof

/-- Y, any register byte (R126, R145). -/
def execY (regByte : Byte) (d : Word) (crc : Byte) (s : State) : Host.Outcome State Fault Refusal :=
  receive (encode (.y regByte d crc)) s

/-- Y.VACTUAL (R145, R162). -/
def execYVactual (d : Word) (crc : Byte) (s : State) : Host.Outcome State Fault Refusal :=
  receive (encode (.yVactual d crc)) s

/-- Y.DRV_STATUS (R145, R162). -/
def execYDrvStatus (d : Word) (crc : Byte) (s : State) : Host.Outcome State Fault Refusal :=
  receive (encode (.yDrvStatus d crc)) s

end Sys2Proof.Machine
end

