-- ==== Sys2Proof/Machine/WriteFrames.lean ====
section
/-! DEFINITION. The meanings of the write frames: the block transmits the frame as the issue of a W micro-operation (R190):
one TX event, then phase Settle. The register rows are the steps of rule R192. -/

namespace Sys2Proof.Machine

open Sys2Proof

/-- W, any register (R120, R190). -/
def execW (slave : Byte) (reg : RegAddr) (d : Word) (crc : Byte) (s : State) : Host.Outcome State Fault Refusal :=
  transmitWrite (encode (.w slave reg d crc)) s

/-- W.GCONF: step W1 (R190, R192). -/
def execWGconf (slave : Byte) (d : Word) (crc : Byte) (s : State) : Host.Outcome State Fault Refusal :=
  transmitWrite (encode (.wGconf slave d crc)) s

/-- W.CHOPCONF: step W2 (R190, R192). -/
def execWChopconf (slave : Byte) (d : Word) (crc : Byte) (s : State) : Host.Outcome State Fault Refusal :=
  transmitWrite (encode (.wChopconf slave d crc)) s

/-- W.COOLCONF: step W3 (R190, R192). -/
def execWCoolconf (slave : Byte) (d : Word) (crc : Byte) (s : State) : Host.Outcome State Fault Refusal :=
  transmitWrite (encode (.wCoolconf slave d crc)) s

/-- W.IHOLD_IRUN: step W4 (R190, R192). -/
def execWIholdIrun (slave : Byte) (d : Word) (crc : Byte) (s : State) : Host.Outcome State Fault Refusal :=
  transmitWrite (encode (.wIholdIrun slave d crc)) s

/-- W.TPOWERDOWN: step W5 (R190, R192). -/
def execWTpowerdown (slave : Byte) (d : Word) (crc : Byte) (s : State) : Host.Outcome State Fault Refusal :=
  transmitWrite (encode (.wTpowerdown slave d crc)) s

/-- W.TPWMTHRS: step W6 (R190, R192). -/
def execWTpwmthrs (slave : Byte) (d : Word) (crc : Byte) (s : State) : Host.Outcome State Fault Refusal :=
  transmitWrite (encode (.wTpwmthrs slave d crc)) s

/-- W.XTARGET: step W7 and WS (R190, R192). -/
def execWXtarget (slave : Byte) (d : Word) (crc : Byte) (s : State) : Host.Outcome State Fault Refusal :=
  transmitWrite (encode (.wXtarget slave d crc)) s

/-- W.XACTUAL: step W8 and `resetPositionCounter` (R196) (R190, R192). -/
def execWXactual (slave : Byte) (d : Word) (crc : Byte) (s : State) : Host.Outcome State Fault Refusal :=
  transmitWrite (encode (.wXactual slave d crc)) s

/-- W.VSTART: step W9 (R190, R192). -/
def execWVstart (slave : Byte) (d : Word) (crc : Byte) (s : State) : Host.Outcome State Fault Refusal :=
  transmitWrite (encode (.wVstart slave d crc)) s

/-- W.A1: step W10 (R190, R192). -/
def execWA1 (slave : Byte) (d : Word) (crc : Byte) (s : State) : Host.Outcome State Fault Refusal :=
  transmitWrite (encode (.wA1 slave d crc)) s

/-- W.V1: step W11 (R190, R192). -/
def execWV1 (slave : Byte) (d : Word) (crc : Byte) (s : State) : Host.Outcome State Fault Refusal :=
  transmitWrite (encode (.wV1 slave d crc)) s

/-- W.AMAX: step W12 (R190, R192). -/
def execWAmax (slave : Byte) (d : Word) (crc : Byte) (s : State) : Host.Outcome State Fault Refusal :=
  transmitWrite (encode (.wAmax slave d crc)) s

/-- W.VMAX: step W13 and `setVelocity` (R195) (R190, R192). -/
def execWVmax (slave : Byte) (d : Word) (crc : Byte) (s : State) : Host.Outcome State Fault Refusal :=
  transmitWrite (encode (.wVmax slave d crc)) s

/-- W.DMAX: step W14 (R190, R192). -/
def execWDmax (slave : Byte) (d : Word) (crc : Byte) (s : State) : Host.Outcome State Fault Refusal :=
  transmitWrite (encode (.wDmax slave d crc)) s

/-- W.D1: step W15 (R190, R192). -/
def execWD1 (slave : Byte) (d : Word) (crc : Byte) (s : State) : Host.Outcome State Fault Refusal :=
  transmitWrite (encode (.wD1 slave d crc)) s

/-- W.VSTOP: step W16 (R190, R192). -/
def execWVstop (slave : Byte) (d : Word) (crc : Byte) (s : State) : Host.Outcome State Fault Refusal :=
  transmitWrite (encode (.wVstop slave d crc)) s

/-- W.RAMPMODE: step W17 (R190, R192). -/
def execWRampmode (slave : Byte) (d : Word) (crc : Byte) (s : State) : Host.Outcome State Fault Refusal :=
  transmitWrite (encode (.wRampmode slave d crc)) s

end Sys2Proof.Machine
end

