-- ==== Sys2Proof/Machine/Dispatch.lean ====
section
/-! DEFINITION. One arm for each constructor of Instr, each a direct call of its meaning. -/

namespace Sys2Proof.Machine

open Sys2Proof

def exec (i : Instr) (s : State) : Host.Outcome State Fault Refusal :=
  match i with
  | .w slave reg d crc => Sys2Proof.Machine.execW slave reg d crc s
  | .r slave reg crc => Sys2Proof.Machine.execR slave reg crc s
  | .y regByte d crc => Sys2Proof.Machine.execY regByte d crc s
  | .wGconf slave d crc => Sys2Proof.Machine.execWGconf slave d crc s
  | .wChopconf slave d crc => Sys2Proof.Machine.execWChopconf slave d crc s
  | .wCoolconf slave d crc => Sys2Proof.Machine.execWCoolconf slave d crc s
  | .wIholdIrun slave d crc => Sys2Proof.Machine.execWIholdIrun slave d crc s
  | .wTpowerdown slave d crc => Sys2Proof.Machine.execWTpowerdown slave d crc s
  | .wTpwmthrs slave d crc => Sys2Proof.Machine.execWTpwmthrs slave d crc s
  | .wXtarget slave d crc => Sys2Proof.Machine.execWXtarget slave d crc s
  | .wXactual slave d crc => Sys2Proof.Machine.execWXactual slave d crc s
  | .wVstart slave d crc => Sys2Proof.Machine.execWVstart slave d crc s
  | .wA1 slave d crc => Sys2Proof.Machine.execWA1 slave d crc s
  | .wV1 slave d crc => Sys2Proof.Machine.execWV1 slave d crc s
  | .wAmax slave d crc => Sys2Proof.Machine.execWAmax slave d crc s
  | .wVmax slave d crc => Sys2Proof.Machine.execWVmax slave d crc s
  | .wDmax slave d crc => Sys2Proof.Machine.execWDmax slave d crc s
  | .wD1 slave d crc => Sys2Proof.Machine.execWD1 slave d crc s
  | .wVstop slave d crc => Sys2Proof.Machine.execWVstop slave d crc s
  | .wRampmode slave d crc => Sys2Proof.Machine.execWRampmode slave d crc s
  | .rGconf slave crc => Sys2Proof.Machine.execRGconf slave crc s
  | .rChopconf slave crc => Sys2Proof.Machine.execRChopconf slave crc s
  | .rXactual slave crc => Sys2Proof.Machine.execRXactual slave crc s
  | .rRampmode slave crc => Sys2Proof.Machine.execRRampmode slave crc s
  | .rVactual slave crc => Sys2Proof.Machine.execRVactual slave crc s
  | .rDrvStatus slave crc => Sys2Proof.Machine.execRDrvStatus slave crc s
  | .yVactual d crc => Sys2Proof.Machine.execYVactual d crc s
  | .yDrvStatus d crc => Sys2Proof.Machine.execYDrvStatus d crc s
  | .start rps => Sys2Proof.Machine.execStart rps s
  | .setVelocity rps => Sys2Proof.Machine.execSetVelocity rps s
  | .resetPositionCounter => Sys2Proof.Machine.execResetPositionCounter s
  | .checkStatus => Sys2Proof.Machine.execCheckStatus s
  | .reset rps => Sys2Proof.Machine.execReset rps s
  | .enableStallException b => Sys2Proof.Machine.execEnableStallException b s
  | .enableVelocityException b => Sys2Proof.Machine.execEnableVelocityException b s
  | .close => Sys2Proof.Machine.execClose s

end Sys2Proof.Machine
end

