-- ==== Sys2Proof/Machine/Sequencer.lean ====
section
/-! DEFINITION. The requester: one move of the micro-program of the command in progress (44_sequencer.md R184). -/

namespace Sys2Proof.Machine

open Sys2Proof

/-- OPEN (R186): one LINK event; without an answer the requester waits (R273). -/
def openMove (s : State) : Host.Outcome State Fault Refusal :=
  match s.openAnswers with
  | [] => .next s
  | a :: rest =>
    let t := { s with openAnswers := rest }.emit (.linkOpen a)
    match a with
    | .ok => .next { t with channelOpen := true }.advance
    | .portUnavailable => .next (t.raise .portUnavailable)
    | .openFailed => .next (t.raise .openFailed)

/-- CLOSE (R238): one LINK event; without an answer the requester waits (R273). -/
def closeMove (s : State) : Host.Outcome State Fault Refusal :=
  match s.closeAnswers with
  | [] => .next s
  | b :: rest =>
    let t := { s with closeAnswers := rest }.emit (.linkClose b)
    .next { t with channelOpen := false, lifecycle := .closed, closeResult := b }.advance

/-- SETFLAG (R236, R237). -/
def setFlagMove (which : ExcFlag) (b : Bool) (s : State) : State :=
  match which with
  | .stall => { s with stallExcEn := b }.advance
  | .velocity => { s with velExcEn := b }.advance

/-- The value of RET (R183). -/
def State.retValue (s : State) : RetValue → CmdValue
  | .unit => .unit
  | .statusWork => .status s.statusWork
  | .closeResult => .bool s.closeResult

/-- The start of a micro-operation in phase Issue (R184). A W or a read transmits its frame: the requester runs that frame's
instruction. -/
def issueMove (op : MicroOp) (s : State) : Host.Outcome State Fault Refusal :=
  match op with
  | .validate rps => if validRps rps then .next s.advance else .next (s.raise .invalidVelocity)
  | .openLink => openMove s
  | .setState l => .next { s with lifecycle := l }.advance
  | .setRps rps => .next { s with desiredRps := rps }.advance
  | .write reg v => exec (writeInstr s.cfg.slaveAddress reg v (writeCrc s.cfg.slaveAddress reg v)) s
  | .readBack reg _ => exec (readInstr s.cfg.slaveAddress reg (readCrc s.cfg.slaveAddress reg)) s
  | .powerCycle => .next s.advance
  | .fresh => .next { s with statusWork := MotorStatus.fresh s.cfg.dataCorruptInit }.advance
  | .readStatus _ reg => exec (readInstr s.cfg.slaveAddress reg (readCrc s.cfg.slaveAddress reg)) s
  | .eval =>
    match evalStatus s.statusWork s.stallExcEn s.velExcEn s.desiredRps with
    | some e => .next (s.raise e)
    | none => .next s.advance
  | .setFlag which b => .next (setFlagMove which b s)
  | .closeLink => closeMove s
  | .ret v => .next (s.retOk (s.retValue v))

/-- RB after step B (R191): the full word is compared, the register byte is not. -/
def readBackEnd (expected : Word) (r : Except CmdError ValidatedReply) (s : State) : State :=
  match r with
  | .error e => s.raise e
  | .ok v => if v.data = expected then s.advance else s.raise .configReadbackFailed

/-- RS after step B (R206). -/
def readStatusEnd (kind : StatusKind) (r : Except CmdError ValidatedReply) (s : State) : State :=
  match r with
  | .error e => s.raise e
  | .ok v => { s with statusWork := decodeStatus kind v.regByte v.data s.statusWork }.advance

/-- Step B of a read and the end of its micro-operation (R146, R184), one move; before the wait has ended there is none. -/
def wakeMove (op : MicroOp) (s : State) : Host.Outcome State Fault Refusal :=
  match op with
  | .readBack _ expected => if s.wakeReady then .next (readBackEnd expected s.readResult s.endWait) else .next s
  | .readStatus kind _ => if s.wakeReady then .next (readStatusEnd kind s.readResult s.endWait) else .next s
  | .validate _ | .openLink | .setState _ | .setRps _ | .write _ _ | .powerCycle | .fresh | .eval | .setFlag _ _ | .closeLink
  | .ret _ => .fault .seqOffProgram

/-- The requester's move (R184). Idle or in a settle it has none, and nothing changes. -/
def requesterMove (s : State) : Host.Outcome State Fault Refusal :=
  match s.seqPc with
  | .idle => .next s
  | .step _ phase =>
    match s.currentOp with
    | none => .fault .seqOffProgram
    | some op =>
      match phase with
      | .issue => issueMove op s
      | .settle => .next s
      | .await => wakeMove op s

/-- The requester has a move (R142, R146, R184, R186, R238). -/
def requesterReady (s : State) : Bool :=
  match s.seqPc with
  | .idle => false
  | .step _ .settle => false
  | .step _ .await => s.wakeReady
  | .step _ .issue =>
    match s.currentOp with
    | some .openLink => !s.openAnswers.isEmpty
    | some .closeLink => !s.closeAnswers.isEmpty
    | some (.readBack _ _) => s.lock == .free
    | some (.readStatus _ _) => s.lock == .free
    | _ => true

end Sys2Proof.Machine
end

