-- ==== Sys2Proof/Machine/Agents.lean ====
section
/-! DEFINITION. The agents and which of them moves (42_coordinator.md R140; 60_exceptions.md R258, R273). -/

namespace Sys2Proof.Machine

open Sys2Proof

/-- The instruction of a command. -/
def commandInstr : Command → Instr
  | .start rps => .start rps
  | .setVelocity rps => .setVelocity rps
  | .resetPositionCounter => .resetPositionCounter
  | .checkStatus => .checkStatus
  | .reset rps => .reset rps
  | .enableStallException b => .enableStallException b
  | .enableVelocityException b => .enableVelocityException b
  | .close => .close

/-- The caller offers its next command. While the port is busy the command stays offered: the caller waits (R231). -/
def callerMove (s : State) : Host.Outcome State Fault Refusal :=
  match s.cmdIn with
  | [] => .next s
  | c :: rest => if s.portReady then exec (commandInstr c) { s with cmdIn := rest } else .next s

/-- The transport delivers its next buffer (R145): a Y frame is that instruction, any other buffer is deposited all the same.
While LOCK is held the delivery waits. -/
def deliveryMove (s : State) : Host.Outcome State Fault Refusal :=
  match s.rxIn with
  | [] => .next s
  | buf :: rest =>
    if s.lock = .free then
      match decode .rx buf with
      | .ok i => exec i { s with rxIn := rest }
      | .error _ => receive buf { s with rxIn := rest }
    else .next s

/-- The move of each agent. An agent that is not enabled has none, and nothing changes. -/
def agentMove (a : Agent) (s : State) : Host.Outcome State Fault Refusal :=
  match a with
  | .caller => callerMove s
  | .requester => requesterMove s
  | .delivery => deliveryMove s
  | .readTimer => .next s.readTimeout
  | .settleTimer => .next s.settleEnd

/-- The agent that moves when the schedule names none (log 1): the requester if it has a move; else what its wait needs, as
the duties of rule R273 ask (the settle ends; a buffer is delivered, or with none offered the wait expires); else the caller. -/
def defaultAgent (s : State) : Agent :=
  if requesterReady s then .requester
  else if s.settleTimer = .armed then .settleTimer
  else if s.waiting = true ∧ s.wake = .none then (if s.rxIn = [] then .readTimer else .delivery)
  else .caller

/-- The agent that moves next. -/
def nextAgent (s : State) : Agent :=
  match s.schedule with
  | a :: _ => a
  | [] => defaultAgent s

/-- The schedule's head is used up by the move it names. -/
def State.tick (s : State) : State :=
  { s with schedule := s.schedule.tail }

/-! ### Placing one frame (for the host's questions; log 22) -/

/-- The sequencer stands before W1 of a `reset` under a configuration whose W1 is this write. -/
def placeWrite (slave : Byte) (reg : RegAddr) (d : Word) (s : State) : State :=
  { s with
    cfg := { s.cfg with slaveAddress := slave, regGconf := reg, cfgGconf := d }
    curCmd := some (.reset 0)
    seqPc := .step 5 .issue
    schedule := .requester :: s.schedule }

/-- The sequencer stands before RB1 of a `reset` under a configuration whose RB1 is this read. -/
def placeRead (slave : Byte) (reg : RegAddr) (s : State) : State :=
  { s with
    cfg := { s.cfg with slaveAddress := slave, regGconf := reg }
    curCmd := some (.reset 0)
    seqPc := .step 22 .issue
    lock := .free
    schedule := .requester :: s.schedule }

/-- The transport delivers this buffer next. -/
def placeReply (buf : List Byte) (s : State) : State :=
  { s with rxIn := buf :: s.rxIn, lock := .free, schedule := .delivery :: s.schedule }

/-- The placement of a frame's bytes: by its port and its length (R80). -/
def placeFrame (bytes : List Byte) (s : State) : State :=
  match decode .tx bytes, bytes with
  | .ok _, [_, b1, b2, _] => placeRead b1 (regOfByte b2) s
  | .ok _, [_, b1, b2, b3, b4, b5, b6, _] => placeWrite b1 (regOfByte b2) (u32 b3 b4 b5 b6) s
  | _, _ => placeReply bytes s

end Sys2Proof.Machine
end

