-- ==== Sys2Proof/Machine/Step.lean ====
section
/-! DEFINITION. One step: the agent whose turn it is makes its move. -/

namespace Sys2Proof.Machine

open Sys2Proof

/-- One step of the block and its environment: one atomic event (R4). -/
def step (s : State) : Host.Outcome State Fault Refusal :=
  agentMove (nextAgent s) s.tick

/-- `s` with one frame placed where the next step runs it (log 22). -/
def State.withFetchWord (s : State) (nbits w : Nat) : State :=
  placeFrame (wordBytes (nbits / 8) w) s

end Sys2Proof.Machine
end

