-- ==== Sys2Proof/Safety.lean ====
section
/-! DEFINITION. The terms the claims use: the invariant that every run of the block keeps, the forms a claim names together, the
turns and frames of a whole command, and the tables of 60_exceptions.md R254. -/

namespace Sys2Proof.Safety

open Sys2Proof Sys2Proof.Machine

/-! ### The invariant -/

/-- SEQ_PC is idle exactly when no command is in progress, and else points at a step of its micro-program (R37, R38). -/
def pcOk (s : State) : Bool :=
  match s.curCmd, s.seqPc with
  | none, .idle => true
  | some c, .step k _ => (microOpAt s.cfg c k).isSome
  | _, _ => false

/-- The micro-operation at SEQ_PC is a W. -/
def atWrite (s : State) : Bool :=
  match s.currentOp with
  | some (.write _ _) => true
  | _ => false

/-- The micro-operation at SEQ_PC is a read: RB or RS. -/
def atRead (s : State) : Bool :=
  match s.currentOp with
  | some (.readBack _ _) => true
  | some (.readStatus _ _) => true
  | _ => false

/-- Phase Settle belongs to a W and to an armed settle timer, phase Await to a read and to WAITING (R38, R41, R190, R269). -/
def phaseOk (s : State) : Bool :=
  match s.seqPc with
  | .step _ .settle => atWrite s && s.settleTimer == .armed && !s.waiting
  | .step _ .await => atRead s && s.settleTimer == .disarmed && s.waiting
  | _ => s.settleTimer == .disarmed && !s.waiting

/-- The read timer runs only during a wait, and runs while nothing has ended it (R143, R147, R268). -/
def timerOk (s : State) : Bool :=
  (s.readTimer == .disarmed || s.waiting) && (!s.waiting || s.wake != .none || s.readTimer == .armed)

/-- A velocity argument has passed VALIDATE once its command is past step 1 (R187, R188). -/
def argsOk (s : State) : Bool :=
  match s.curCmd, s.seqPc with
  | some (.start rps), .step k _ => k ≤ 1 || decide (validRps rps)
  | some (.setVelocity rps), .step k _ => k ≤ 1 || decide (validRps rps)
  | some (.reset rps), .step k _ => k ≤ 1 || decide (validRps rps)
  | _, _ => true

/-- STATE is Running or Faulted. -/
def live (s : State) : Bool :=
  s.lifecycle == .running || s.lifecycle == .faulted

/-- CHANNEL_OPEN holds exactly in Running and Faulted, and STATE is not Configuring: the session between commands and during a
command that does not configure (R32, R36, R232). -/
def settled (s : State) : Bool :=
  s.lifecycle != .configuring && s.channelOpen == live s

/-- STATE and CHANNEL_OPEN fit the command in progress and its position (R181, R186, R193, R213, R232, R238). -/
def sessionOk (s : State) : Bool :=
  match s.curCmd, s.seqPc with
  | some (.start _), .step k _ =>
    if k ≤ 2 then s.lifecycle == .uninitialized && !s.channelOpen
    else if k ≤ 3 then s.lifecycle == .uninitialized && s.channelOpen
    else if k ≤ 27 then s.lifecycle == .configuring && s.channelOpen
    else s.lifecycle == .running && s.channelOpen
  | some (.reset _), .step k _ =>
    if k ≤ 3 then live s && s.channelOpen
    else if k ≤ 27 then s.lifecycle == .configuring && s.channelOpen
    else s.lifecycle == .running && s.channelOpen
  | some (.setVelocity _), _ => live s && s.channelOpen
  | some .resetPositionCounter, _ => live s && s.channelOpen
  | some .checkStatus, _ => live s && s.channelOpen
  | some .close, .step k _ =>
    if k ≤ 1 then live s && s.channelOpen else s.lifecycle == .closed && !s.channelOpen
  | _, _ => settled s

/-- The invariant: what every state of a run from block reset satisfies. LOCK is Free between steps, because step A, step B and
a delivery are one step each (R144). -/
abbrev Inv (s : State) : Prop :=
  pcOk s = true ∧ phaseOk s = true ∧ timerOk s = true ∧ s.lock = .free ∧ validRps s.desiredRps ∧ argsOk s = true ∧
    sessionOk s = true

/-! ### Forms a claim names together -/

/-- The 18 write-frame forms with their operands. -/
def writeForms (slave : Byte) (reg : RegAddr) (d : Word) (crc : Byte) : List Instr :=
  [.w slave reg d crc, .wGconf slave d crc, .wChopconf slave d crc, .wCoolconf slave d crc, .wIholdIrun slave d crc,
   .wTpowerdown slave d crc, .wTpwmthrs slave d crc, .wXtarget slave d crc, .wXactual slave d crc, .wVstart slave d crc,
   .wA1 slave d crc, .wV1 slave d crc, .wAmax slave d crc, .wVmax slave d crc, .wDmax slave d crc, .wD1 slave d crc,
   .wVstop slave d crc, .wRampmode slave d crc]

/-- The 7 read-request forms with their operands. -/
def readForms (slave : Byte) (reg : RegAddr) (crc : Byte) : List Instr :=
  [.r slave reg crc, .rGconf slave crc, .rChopconf slave crc, .rXactual slave crc, .rRampmode slave crc, .rVactual slave crc,
   .rDrvStatus slave crc]

/-- The 3 reply forms with their operands. -/
def replyForms (regByte : Byte) (d : Word) (crc : Byte) : List Instr :=
  [.y regByte d crc, .yVactual d crc, .yDrvStatus d crc]

/-! ### Runs of whole commands -/

/-- `n` steps of the machine, stopping at the first fault or refusal. -/
abbrev steps (n : Nat) (s : State) : Host.Outcome State Fault Refusal :=
  Host.Core.run Sys2Proof.core n s

/-- The turns of a W: the requester sends, the settle ends (R190). -/
def writeTurns : List Agent :=
  [.requester, .settleTimer]

/-- The turns of a read that is answered: step A, one delivery, step B (R141). -/
def readTurns : List Agent :=
  [.requester, .delivery, .requester]

/-- The turns of SETSTATE, SETRPS, W1 to W17, RB1 to RB4, WS and SETSTATE (R183). -/
def configTurns : List Agent :=
  [.requester, .requester] ++ (List.replicate 17 writeTurns).flatten ++ (List.replicate 4 readTurns).flatten ++ writeTurns ++
    [.requester]

/-- The frames of W1 to W17, in order: the table of rule R192. -/
def configWriteFrames (c : Config) (rps : Rat) : List (List Byte) :=
  [encodeWrite c.slaveAddress c.regGconf c.cfgGconf, encodeWrite c.slaveAddress c.regChopconf c.cfgChopconf,
   encodeWrite c.slaveAddress c.regCoolconf c.cfgCoolconf, encodeWrite c.slaveAddress c.regIholdIrun c.cfgIholdIrun,
   encodeWrite c.slaveAddress c.regTpowerdown c.cfgTpowerdown, encodeWrite c.slaveAddress c.regTpwmthrs c.cfgTpwmthrs,
   encodeWrite c.slaveAddress c.regXtarget 0, encodeWrite c.slaveAddress c.regXactual 0,
   encodeWrite c.slaveAddress c.regVstart c.cfgVstart, encodeWrite c.slaveAddress c.regA1 c.cfgA1,
   encodeWrite c.slaveAddress c.regV1 c.cfgV1, encodeWrite c.slaveAddress c.regAmax c.cfgAmax,
   encodeWrite c.slaveAddress c.regVmax (vreg rps), encodeWrite c.slaveAddress c.regDmax c.cfgDmax,
   encodeWrite c.slaveAddress c.regD1 c.cfgD1, encodeWrite c.slaveAddress c.regVstop c.cfgVstop,
   encodeWrite c.slaveAddress c.regRampmode c.rampmodePosition]

/-- The 22 frames of a configuration, in order: W1 to W17, the requests of RB1 to RB4, WS (R192, R193). -/
def configFrames (c : Config) (rps : Rat) : List (List Byte) :=
  configWriteFrames c rps ++
    [encodeRead c.slaveAddress c.regGconf, encodeRead c.slaveAddress c.regChopconf, encodeRead c.slaveAddress c.regXactual,
     encodeRead c.slaveAddress c.regRampmode, encodeWrite c.slaveAddress c.regXtarget c.unreachableTarget]

/-- What can happen while the requester waits: a delivery of a buffer, or (`none`) the expiry of the wait (R141). -/
def waitEvent (s : State) : Option (List Byte) → State
  | some buf => s.deposit buf
  | none => s.readTimeout

/-- The last buffer delivered among the events of a wait. -/
def lastDelivery : List (Option (List Byte)) → Option (List Byte)
  | [] => none
  | e :: rest =>
    match lastDelivery rest with
    | some buf => some buf
    | none => e

/-! ### Tables -/

/-- The decode errors of rule R126. -/
def decodeErrors : List CmdError :=
  [.nullOrEmpty, .wrongLength, .badSyncOrAddress, .crcMismatch]

/-- The errors of EVAL (R207), in its order. -/
def evalErrors : List CmdError :=
  [.stall, .overTemperaturePrewarning, .overTemperature, .openLoadA, .openLoadB, .shortToGroundA, .shortToGroundB,
   .velocityOutOfBand]

/-- The errors each micro-operation raises: the table of rule R254. -/
def errorsRaisedBy : MicroOp → List CmdError
  | .openLink => [.portUnavailable, .openFailed]
  | .validate _ => [.invalidVelocity]
  | .readBack _ _ => .timeout :: .configReadbackFailed :: decodeErrors
  | .readStatus _ _ => .timeout :: decodeErrors
  | .eval => evalErrors
  | .setState _ | .setRps _ | .write _ _ | .powerCycle | .fresh | .setFlag _ _ | .closeLink | .ret _ => []

/-- The errors each command can end in: the table of rule R254, read by its last column. -/
def errorsOfCommand : Command → List CmdError
  | .start _ => .portUnavailable :: .openFailed :: .invalidVelocity :: .timeout :: .configReadbackFailed :: decodeErrors
  | .setVelocity _ => [.invalidVelocity]
  | .checkStatus => .timeout :: decodeErrors ++ evalErrors
  | .reset _ => .invalidVelocity :: .timeout :: .configReadbackFailed :: decodeErrors
  | .resetPositionCounter | .enableStallException _ | .enableVelocityException _ | .close => []

end Sys2Proof.Safety
end

