-- ==== Sys2Proof/Certificates/Slice0/Obligations.lean ====
section
/-! DEFINITION. The statements for the provers. A next state is written out in full wherever an instruction or a move gives
one, so that the statement is also its frame: every field it does not name keeps its value. -/

section

open Sys2Proof Sys2Proof.Machine Sys2Proof.Safety

/-! ### Encoding -/

/-- Words written out from the encodings of R81, R82, R83 and R86 decode to the instructions they stand for (V-ENC-1,
V-ENC-8, V-ENC-20, V-ENC-21, V-DEC-1, V-DEC-16, V-DEC-18). -/
def Obligations.DecodeSpecWords : Prop :=
  decode .tx [0x05, 0x00, 0xA7, 0x00, 0x01, 0xF4, 0x00, 0x5B] = .ok (.wVmax 0x00 128000 0x5B) ∧
    decode .tx [0x05, 0x00, 0xA1, 0x00, 0x00, 0x00, 0x00, 0x3B] = .ok (.wXactual 0x00 0 0x3B) ∧
    decode .tx [0x05, 0x00, 0x22, 0x2E] = .ok (.rVactual 0x00 0x2E) ∧
    decode .tx [0x05, 0x00, 0x6F, 0xCA] = .ok (.rDrvStatus 0x00 0xCA) ∧
    decode .rx [0x05, 0xFF, 0x22, 0x00, 0x01, 0xF4, 0x00, 0x8E] = .ok (.yVactual 128000 0x8E) ∧
    decode .rx [0x05, 0xFF, 0x6F, 0x00, 0x00, 0x00, 0x00, 0x99] = .ok (.yDrvStatus 0 0x99) ∧
    decode .rx [0x05, 0xFF, 0xA2, 0x00, 0x01, 0xF4, 0x00, 0x19] = .ok (.y 0xA2 128000 0x19)

/-- R81, R82, R83, R86: every well-formed frame instruction, with every value of every operand, decodes from its own bytes on
its own port. -/
def Obligations.DecodeEncode : Prop :=
  ∀ i : Instr, WellFormed i → i.port ≠ .cmd → decode i.port (encode i) = .ok i

/-- R81, R82, R83, R113: decoding loses no bit, answers an instruction of the port asked for, and the instruction is well
formed exactly when the last byte is the CRC of the bytes before it. -/
def Obligations.EncodeDecode : Prop :=
  ∀ (p : Port) (bytes : List Byte) (i : Instr), decode p bytes = .ok i →
    encode i = bytes ∧ i.port = p ∧ (WellFormed i ↔ bytes.getLast? = some (crcOf bytes.dropLast))

/-- R80 to R83, R85, R86: the byte strings each port decodes are exactly those that the masks of the opcode table match, told
apart by length, the fixed bytes and bit 7 of byte 2. The masks leave the CRC byte free, so a string with a wrong CRC byte decodes
too, to an instruction that is not well formed (log 10, DEDUCED from R86's masks; `EncodeDecode` says which are). That a reply
with a wrong CRC is illegal (R83, R88) is decodeReply's check (`DecodeReplyChecks`). Commands have no bits (R87). -/
def Obligations.DecodesExactlyTheFormats : Prop :=
  ∀ bytes : List Byte,
    ((∃ i, decode .tx bytes = .ok i) ↔
      bytes.head? = some 0x05 ∧
        (bytes.length = 8 ∧ (bytes.getD 2 0).getLsbD 7 = true ∨ bytes.length = 4 ∧ (bytes.getD 2 0).getLsbD 7 = false)) ∧
    ((∃ i, decode .rx bytes = .ok i) ↔ bytes.length = 8 ∧ bytes.head? = some 0x05 ∧ bytes.getD 1 0 = 0xFF) ∧
    ∀ i, decode .cmd bytes ≠ .ok i

/-- R120, R122, R123: the bytes the encoders build, the CRC last, and their domain: a register byte with bit 7 clear. -/
def Obligations.EncodersBuildTheFrames : Prop :=
  (∀ (slave : Byte) (reg : RegAddr) (d : Word),
    encodeWrite slave reg d =
      [0x05, slave, reg.setWidth 8 ||| 0x80, d.extractLsb' 24 8, d.extractLsb' 16 8, d.extractLsb' 8 8, d.extractLsb' 0 8,
        crcOf [0x05, slave, reg.setWidth 8 ||| 0x80, d.extractLsb' 24 8, d.extractLsb' 16 8, d.extractLsb' 8 8,
          d.extractLsb' 0 8]]) ∧
    (∀ (slave : Byte) (reg : RegAddr),
      encodeRead slave reg = [0x05, slave, reg.setWidth 8, crcOf [0x05, slave, reg.setWidth 8]]) ∧
    (∀ (slave regByte : Byte) (d : Word),
      encodeWrite? slave regByte d =
        if regByte.getLsbD 7 then none else some (encodeWrite slave (regByte.setWidth 7) d)) ∧
    ∀ slave regByte : Byte,
      encodeRead? slave regByte = if regByte.getLsbD 7 then none else some (encodeRead slave (regByte.setWidth 7))

/-! ### CRC and reply decoding -/

/-- R115: the equivalent form of `nextCrc`, on every input, and the check value. -/
def Obligations.CrcEquivalentForm : Prop :=
  (∀ c d : Byte, nextCrc c d = shift8 (c ^^^ d)) ∧
    crcOf [0x31, 0x32, 0x33, 0x34, 0x35, 0x36, 0x37, 0x38, 0x39] = 0xF4

/-- R116(c): the residue, and its use as the CRC test. -/
def Obligations.CrcResidue : Prop :=
  ∀ f : List Byte, crcOf (f ++ [crcOf f]) = 0x00 ∧ ∀ b : Byte, crcOf (f ++ [b]) = 0x00 ↔ crcOf f = b

/-- R116(b): changing one byte anywhere (so flipping any single bit), or any burst of at most 8 consecutive bits across two
neighbouring bytes, changes the CRC. The burst is the pattern `e`, moved left by `k` places in the 16 bits of the two bytes. -/
def Obligations.CrcDetectsBursts : Prop :=
  (∀ (before after : List Byte) (x e : Byte), e ≠ 0 → crcOf (before ++ [x ^^^ e] ++ after) ≠ crcOf (before ++ [x] ++ after)) ∧
    ∀ (before after : List Byte) (x y e : Byte) (k : Nat), e ≠ 0 → k ≤ 8 →
      crcOf (before ++ [x ^^^ ((e.setWidth 16) <<< k).extractLsb' 8 8, y ^^^ ((e.setWidth 16) <<< k).extractLsb' 0 8] ++ after) ≠
        crcOf (before ++ [x, y] ++ after)

/-- R126: the checks of `decodeReply` in their order, on a buffer of any length. -/
def Obligations.DecodeReplyChecks : Prop :=
  ∀ buf : List Byte,
    decodeReply buf =
      if buf.length = 0 then .error .nullOrEmpty
      else if buf.length ≠ 8 then .error .wrongLength
      else if buf.getD 0 0 ≠ 0x05 ∨ buf.getD 1 0 ≠ 0xFF then .error .badSyncOrAddress
      else if crcOf (buf.take 7) ≠ buf.getD 7 0 then .error .crcMismatch
      else .ok { regByte := buf.getD 2 0, data := u32 (buf.getD 3 0) (buf.getD 4 0) (buf.getD 5 0) (buf.getD 6 0) }

/-- R133: a reply made of a register byte and a word decodes to them; changing one of bytes 2 to 7 gives CrcMismatch, and
changing byte 0 or 1 gives BadSyncOrAddress. -/
def Obligations.ReplyRoundTripAndMutation : Prop :=
  ∀ (r : Byte) (d : Word),
    mkReply r d = [0x05, 0xFF, r] ++ bytes4 d ++ [crcOf ([0x05, 0xFF, r] ++ bytes4 d)] ∧
    decodeReply (mkReply r d) = .ok { regByte := r, data := d } ∧
    ∀ (n : Nat) (b : Byte), n < 8 → b ≠ (mkReply r d).getD n 0 →
      decodeReply ((mkReply r d).set n b) = .error (if n < 2 then .badSyncOrAddress else .crcMismatch)

/-- R162 to R168: the fields a status decode writes, and that every other pair of kind and register byte writes none. -/
def Obligations.StatusDecoding : Prop :=
  ∀ (kind : StatusKind) (regByte : Byte) (d : Word) (s : MotorStatus),
    decodeStatus kind regByte d s =
      if kind = .velocity ∧ regByte = 0x22 then { s with actualVelocity := d, dataCorrupt := false }
      else if kind = .driverError ∧ regByte = 0x6F then
        { s with
          stall := decide (d.getLsbD 24 = true ∧ d.toNat % 65536 = 0)
          overTemp := d.getLsbD 25
          overTempPrewarning := d.getLsbD 26
          shortToGroundA := d.getLsbD 27
          shortToGroundB := d.getLsbD 28
          openLoadA := d.getLsbD 29
          openLoadB := d.getLsbD 30
          dataCorrupt := false }
      else s

/-- R250, R255: the class and the code of each error variant; what an error value records, under every configuration; the message
of Timeout, and the parameter MSG for every other variant (R9). -/
def Obligations.ErrorTaxonomy : Prop :=
  [CmdError.portUnavailable, .openFailed, .timeout, .nullOrEmpty].map (fun e => (errorClass e, errorCode e)) =
      [(.communicationError, 0x10), (.communicationError, 0x11), (.communicationError, 0x12), (.communicationError, 0x13)] ∧
    [CmdError.wrongLength, .badSyncOrAddress, .crcMismatch].map (fun e => (errorClass e, errorCode e)) =
      [(.dataCorruptError, 0x20), (.dataCorruptError, 0x21), (.dataCorruptError, 0x22)] ∧
    [CmdError.invalidVelocity, .configReadbackFailed, .stall, .overTemperaturePrewarning, .overTemperature, .openLoadA,
        .openLoadB, .shortToGroundA, .shortToGroundB, .velocityOutOfBand].map (fun e => (errorClass e, errorCode e)) =
      [(.driverError, 0x30), (.driverError, 0x31), (.driverError, 0x32), (.driverError, 0x33), (.driverError, 0x34),
        (.driverError, 0x35), (.driverError, 0x36), (.driverError, 0x37), (.driverError, 0x38), (.driverError, 0x39)] ∧
    ∀ c : Config,
      (∀ e, errorValue c e = { errorClass := errorClass e, code := errorCode e, message := errorMessage c.messages e }) ∧
      errorMessage c.messages .timeout = "no reply answer" ∧
      [CmdError.portUnavailable, .openFailed, .nullOrEmpty, .wrongLength, .badSyncOrAddress, .crcMismatch, .invalidVelocity,
          .configReadbackFailed, .stall, .overTemperaturePrewarning, .overTemperature, .openLoadA, .openLoadB,
          .shortToGroundA, .shortToGroundB, .velocityOutOfBand].map (errorMessage c.messages) =
        [c.messages.portUnavailable, c.messages.openFailed, c.messages.nullOrEmpty, c.messages.wrongLength,
          c.messages.badSyncOrAddress, c.messages.crcMismatch, c.messages.invalidVelocity, c.messages.configReadbackFailed,
          c.messages.stall, c.messages.overTemperaturePrewarning, c.messages.overTemperature, c.messages.openLoadA,
          c.messages.openLoadB, c.messages.shortToGroundA, c.messages.shortToGroundB, c.messages.velocityOutOfBand]

/-! ### Write frames -/

/-- R190: each of the 18 W forms, when it is the frame of the W at SEQ_PC in phase Issue, is one TX event, phase Settle and
the settle timer armed, and nothing else. -/
def Obligations.WriteFramesTransmit : Prop :=
  ∀ (s : State) (k : Nat) (r : RegAddr) (v : Word) (slave : Byte) (reg : RegAddr) (d : Word) (crc : Byte) (i : Instr),
    i ∈ writeForms slave reg d crc → s.seqPc = .step k .issue → s.currentOp = some (.write r v) →
      encode i = encodeWrite s.cfg.slaveAddress r v →
        exec i s = .next { s with outputs := s.outputs ++ [.tx (encode i)], seqPc := .step k .settle, settleTimer := .armed }

/-- R190, R269: the end of the settle completes the W; with no settle in progress there is no such event, and
nothing changes (log 17). -/
def Obligations.SettleEndCompletesTheWrite : Prop :=
  ∀ (s : State),
    (∀ k, s.seqPc = .step k .settle → s.settleTimer = .armed →
      agentMove .settleTimer s = .next { s with seqPc := .step (k + 1) .issue, settleTimer := .disarmed }) ∧
    ((∀ k, s.seqPc ≠ .step k .settle) ∨ s.settleTimer = .disarmed → agentMove .settleTimer s = .next s)

/-- The model's choice (log 13; R61, R184): a W or R frame that is not the one the micro-operation at SEQ_PC issues has no
meaning in that state. -/
def Obligations.FramesNotIssuedAreRefused : Prop :=
  ∀ (s : State) (slave : Byte) (reg : RegAddr) (d : Word) (crc : Byte),
    (∀ i ∈ writeForms slave reg d crc,
      (∀ k r v, s.seqPc = .step k .issue → s.currentOp = some (.write r v) → encode i ≠ encodeWrite s.cfg.slaveAddress r v) →
        exec i s = .refused .frameNotIssued) ∧
    ∀ i ∈ readForms slave reg crc,
      (∀ k r v kind, s.seqPc = .step k .issue →
        s.currentOp = some (.readBack r v) ∨ s.currentOp = some (.readStatus kind r) →
          encode i ≠ encodeRead s.cfg.slaveAddress r) →
        exec i s = .refused .frameNotIssued

/-! ### Reads -/

/-- R141, R142, R143, R268: each of the 7 R forms, when it is the request of the read at SEQ_PC in phase Issue and LOCK is
Free, is step A: the slot cleared, one TX event, the wait entered, the timer armed, LOCK released, and nothing else. It is one
step (R144; log 16). -/
def Obligations.ReadFramesStartTheRead : Prop :=
  ∀ (s : State) (k : Nat) (r : RegAddr) (v : Word) (kind : StatusKind) (slave : Byte) (reg : RegAddr) (crc : Byte) (i : Instr),
    i ∈ readForms slave reg crc → s.seqPc = .step k .issue →
      s.currentOp = some (.readBack r v) ∨ s.currentOp = some (.readStatus kind r) →
        encode i = encodeRead s.cfg.slaveAddress r → s.lock = .free →
          exec i s = .next
            { s with
              pendingReply := .empty
              outputs := s.outputs ++ [.tx (encode i)]
              waiting := true
              wake := .none
              readTimer := .armed
              seqPc := .step k .await }

/-- R142, R145: while LOCK is held, step A does not start and a delivery is delayed: nothing changes (log 16). -/
def Obligations.HeldLockDelaysFrames : Prop :=
  ∀ (s : State), s.lock ≠ .free →
    (∀ (k : Nat) (r : RegAddr) (v : Word) (kind : StatusKind) (slave : Byte) (reg : RegAddr) (crc : Byte) (i : Instr),
      i ∈ readForms slave reg crc → s.seqPc = .step k .issue →
        s.currentOp = some (.readBack r v) ∨ s.currentOp = some (.readStatus kind r) →
          encode i = encodeRead s.cfg.slaveAddress r → exec i s = .next s) ∧
    (∀ (regByte : Byte) (d : Word) (crc : Byte) (i : Instr), i ∈ replyForms regByte d crc → exec i s = .next s) ∧
    agentMove .delivery s = .next s

/-- R145: each of the 3 Y forms, with LOCK Free, whatever its CRC byte: the slot is overwritten with the frame's bytes, a
waiting requester is signalled, LOCK is Free again, and nothing else changes. -/
def Obligations.ReplyFramesAreDeposited : Prop :=
  ∀ (s : State) (regByte : Byte) (d : Word) (crc : Byte) (i : Instr), i ∈ replyForms regByte d crc → s.lock = .free →
    exec i s = .next
      { s with pendingReply := .full (encode i), wake := if s.waiting = true then .signalled else s.wake }

/-- R145, R149: the delivery context deposits the next buffer offered, of any length and any bytes, a Y frame or not. -/
def Obligations.AnyBufferIsDeposited : Prop :=
  ∀ (s : State) (buf : List Byte) (rest : List (List Byte)), s.rxIn = buf :: rest → s.lock = .free →
    agentMove .delivery s = .next
      { s with rxIn := rest, pendingReply := .full buf, wake := if s.waiting = true then .signalled else s.wake }

/-- R147, R258, R268: the read-wait timer ends a wait that nothing has ended, once; at any other time it has no effect. -/
def Obligations.ReadWaitExpires : Prop :=
  ∀ s : State,
    (s.waiting = true → s.wake = .none → s.readTimer = .armed →
      agentMove .readTimer s = .next { s with wake := .timedOut, readTimer := .disarmed }) ∧
    (s.waiting = false ∨ s.wake ≠ .none ∨ s.readTimer = .disarmed → agentMove .readTimer s = .next s)

/-- R146, R147, R150: whatever deliveries and expiries happen during a wait, in whatever order, step B is enabled once one
has, and its result is the last buffer delivered since step A, or Timeout when there was none. A buffer that was in the slot
before step A is never the result (R149). -/
def Obligations.ReadReturnsTheLastDelivery : Prop :=
  ∀ (s : State) (frame : List Byte) (events : List (Option (List Byte))),
    State.wakeReady (events.foldl waitEvent (s.issueRead frame)) = !events.isEmpty ∧
      State.slotResult (events.foldl waitEvent (s.issueRead frame)) =
        match lastDelivery events with
        | some buf => .ok buf
        | none => .error .timeout

/-- R146, R152, R191, R194, R262: the end of a read-back. Timeout, a decode error and a data word other than the expected one
end the command with that error and STATE Faulted; the expected word completes the micro-operation, whatever the register
byte. The slot, WAKE and the channel keep their values. -/
def Obligations.ReadBackEnds : Prop :=
  ∀ (s : State) (k : Nat) (r : RegAddr) (v : Word), s.seqPc = .step k .await → s.currentOp = some (.readBack r v) →
    s.waiting = true → s.wake ≠ .none → s.lock = .free →
      (s.pendingReply = .empty →
        requesterMove s = .next
          { s with
            waiting := false, readTimer := .disarmed, lifecycle := .faulted, seqPc := .idle, curCmd := none
            outputs := s.outputs ++ [.result (.err .timeout)] }) ∧
      (∀ buf e, s.pendingReply = .full buf → decodeReply buf = .error e →
        requesterMove s = .next
          { s with
            waiting := false, readTimer := .disarmed, lifecycle := .faulted, seqPc := .idle, curCmd := none
            outputs := s.outputs ++ [.result (.err e)] }) ∧
      ∀ buf reply, s.pendingReply = .full buf → decodeReply buf = .ok reply →
        requesterMove s = .next
          (if reply.data = v then { s with waiting := false, readTimer := .disarmed, seqPc := .step (k + 1) .issue }
          else
            { s with
              waiting := false, readTimer := .disarmed, lifecycle := .faulted, seqPc := .idle, curCmd := none
              outputs := s.outputs ++ [.result (.err .configReadbackFailed)] })

/-- R146, R152, R206, R220: the end of a status read. Timeout and a decode error end the command and leave STATE as it is; a
valid reply is decoded into STATUS_WORK, by the kind requested. -/
def Obligations.StatusReadEnds : Prop :=
  ∀ (s : State) (k : Nat) (kind : StatusKind) (r : RegAddr), s.seqPc = .step k .await →
    s.currentOp = some (.readStatus kind r) → s.waiting = true → s.wake ≠ .none → s.lock = .free →
      (s.pendingReply = .empty →
        requesterMove s = .next
          { s with
            waiting := false, readTimer := .disarmed, seqPc := .idle, curCmd := none
            outputs := s.outputs ++ [.result (.err .timeout)] }) ∧
      (∀ buf e, s.pendingReply = .full buf → decodeReply buf = .error e →
        requesterMove s = .next
          { s with
            waiting := false, readTimer := .disarmed, seqPc := .idle, curCmd := none
            outputs := s.outputs ++ [.result (.err e)] }) ∧
      ∀ buf reply, s.pendingReply = .full buf → decodeReply buf = .ok reply →
        requesterMove s = .next
          { s with
            waiting := false, readTimer := .disarmed, seqPc := .step (k + 1) .issue
            statusWork := decodeStatus kind reply.regByte reply.data s.statusWork }

/-- R68, R143, R190: in a settle, and in a wait that nothing has ended, the requester has no move. -/
def Obligations.RequesterWaits : Prop :=
  ∀ (s : State) (k : Nat) (op : MicroOp), s.currentOp = some op →
    (s.seqPc = .step k .settle → requesterMove s = .next s) ∧
    (∀ r v kind, s.seqPc = .step k .await → op = .readBack r v ∨ op = .readStatus kind r → s.wake = .none →
      requesterMove s = .next s)

/-! ### The sequencer's other moves -/

/-- R183: the micro-program of each command. -/
def Obligations.MicroPrograms : Prop :=
  ∀ (c : Config) (rps : Rat) (b : Bool),
    microProgram c (.start rps) = [.validate rps, .openLink] ++ configBody c rps ++ [.ret .unit] ∧
    microProgram c (.setVelocity rps) = [.validate rps, .setRps rps, .write c.regVmax (vreg rps), .ret .unit] ∧
    microProgram c .resetPositionCounter = [.write c.regXactual 0, .ret .unit] ∧
    microProgram c .checkStatus =
      [.fresh, .readStatus .velocity 0x22, .readStatus .driverError 0x6F, .eval, .ret .statusWork] ∧
    microProgram c (.reset rps) = [.validate rps, .powerCycle] ++ configBody c rps ++ [.ret .unit] ∧
    microProgram c (.enableStallException b) = [.setFlag .stall b, .ret .unit] ∧
    microProgram c (.enableVelocityException b) = [.setFlag .velocity b, .ret .unit] ∧
    microProgram c .close = [.closeLink, .ret .closeResult] ∧
    configBody c rps =
      [.setState .configuring, .setRps rps, .write c.regGconf c.cfgGconf, .write c.regChopconf c.cfgChopconf,
        .write c.regCoolconf c.cfgCoolconf, .write c.regIholdIrun c.cfgIholdIrun, .write c.regTpowerdown c.cfgTpowerdown,
        .write c.regTpwmthrs c.cfgTpwmthrs, .write c.regXtarget 0, .write c.regXactual 0, .write c.regVstart c.cfgVstart,
        .write c.regA1 c.cfgA1, .write c.regV1 c.cfgV1, .write c.regAmax c.cfgAmax, .write c.regVmax (vreg rps),
        .write c.regDmax c.cfgDmax, .write c.regD1 c.cfgD1, .write c.regVstop c.cfgVstop,
        .write c.regRampmode c.rampmodePosition, .readBack c.regGconf c.cfgGconf, .readBack c.regChopconf c.cfgChopconf,
        .readBack c.regXactual 0, .readBack c.regRampmode c.rampmodePosition, .write c.regXtarget c.unreachableTarget,
        .setState .running]

/-- R185: on [0, 5] the velocity register value is the floor of `rps × 51200`, at most 256000; and the rule's corner
cases. -/
def Obligations.VregIsTheFloor : Prop :=
  (∀ rps : Rat, 0 ≤ rps → rps ≤ 5 → ((vreg rps).toNat : Int) = (rps * 51200).floor ∧ (vreg rps).toNat ≤ 256000) ∧
    vreg 0 = 0 ∧ vreg 5 = 256000 ∧ vreg (1 / 3) = 17066 ∧ vreg (5 / 2) = 128000

/-- R187: VALIDATE completes on [0, 5], bounds inclusive, and outside it ends the command with InvalidVelocity, with no TX
event and STATE as it is. -/
def Obligations.ValidateMove : Prop :=
  ∀ (s : State) (k : Nat) (rps : Rat), s.seqPc = .step k .issue → s.currentOp = some (.validate rps) →
    (0 ≤ rps → rps ≤ 5 → requesterMove s = .next { s with seqPc := .step (k + 1) .issue }) ∧
    (rps < 0 ∨ 5 < rps →
      requesterMove s = .next
        { s with seqPc := .idle, curCmd := none, outputs := s.outputs ++ [.result (.err .invalidVelocity)] })

/-- R186, R194: OPEN by the LINK's answer; without one the requester waits (R273; log 2). -/
def Obligations.OpenMove : Prop :=
  ∀ (s : State) (k : Nat), s.seqPc = .step k .issue → s.currentOp = some .openLink →
    (s.openAnswers = [] → requesterMove s = .next s) ∧
    (∀ rest, s.openAnswers = .ok :: rest →
      requesterMove s = .next
        { s with
          openAnswers := rest, channelOpen := true, seqPc := .step (k + 1) .issue
          outputs := s.outputs ++ [.linkOpen .ok] }) ∧
    (∀ rest, s.openAnswers = .portUnavailable :: rest →
      requesterMove s = .next
        { s with
          openAnswers := rest, seqPc := .idle, curCmd := none
          outputs := s.outputs ++ [.linkOpen .portUnavailable, .result (.err .portUnavailable)] }) ∧
    ∀ rest, s.openAnswers = .openFailed :: rest →
      requesterMove s = .next
        { s with
          openAnswers := rest, seqPc := .idle, curCmd := none
          outputs := s.outputs ++ [.linkOpen .openFailed, .result (.err .openFailed)] }

/-- R188, R189, R205, R214, R236, R237: SETRPS, SETSTATE, FRESH, POWERCYCLE and SETFLAG write the register they name and
nothing else, and complete in one step (R184). -/
def Obligations.RegisterMoves : Prop :=
  ∀ (s : State) (k : Nat), s.seqPc = .step k .issue →
    (∀ l, s.currentOp = some (.setState l) →
      requesterMove s = .next { s with lifecycle := l, seqPc := .step (k + 1) .issue }) ∧
    (∀ rps, s.currentOp = some (.setRps rps) →
      requesterMove s = .next { s with desiredRps := rps, seqPc := .step (k + 1) .issue }) ∧
    (s.currentOp = some .powerCycle → requesterMove s = .next { s with seqPc := .step (k + 1) .issue }) ∧
    (s.currentOp = some .fresh →
      requesterMove s = .next
        { s with
          seqPc := .step (k + 1) .issue
          statusWork :=
            { actualVelocity := 0, dataCorrupt := s.cfg.dataCorruptInit, stall := false, overTempPrewarning := false
              overTemp := false, openLoadA := false, openLoadB := false, shortToGroundA := false
              shortToGroundB := false } }) ∧
    (∀ b, s.currentOp = some (.setFlag .stall b) →
      requesterMove s = .next { s with stallExcEn := b, seqPc := .step (k + 1) .issue }) ∧
    ∀ b, s.currentOp = some (.setFlag .velocity b) →
      requesterMove s = .next { s with velExcEn := b, seqPc := .step (k + 1) .issue }

/-- R207 to R210, R220, R262: EVAL's checks in their order; the error it raises; STATE Faulted after the reset-requiring
ones. -/
def Obligations.EvalMove : Prop :=
  ∀ (s : State) (k : Nat), s.seqPc = .step k .issue → s.currentOp = some .eval →
    requesterMove s = .next
      (let fails := fun (e : CmdError) (l : Lifecycle) =>
        { s with lifecycle := l, seqPc := .idle, curCmd := none, outputs := s.outputs ++ [.result (.err e)] }
      if s.statusWork.stall = true ∧ s.stallExcEn = true then fails .stall s.lifecycle
      else if s.statusWork.overTempPrewarning = true then fails .overTemperaturePrewarning s.lifecycle
      else if s.statusWork.overTemp = true then fails .overTemperature .faulted
      else if s.statusWork.openLoadA = true then fails .openLoadA .faulted
      else if s.statusWork.openLoadB = true then fails .openLoadB .faulted
      else if s.statusWork.shortToGroundA = true then fails .shortToGroundA .faulted
      else if s.statusWork.shortToGroundB = true then fails .shortToGroundB .faulted
      else if s.velExcEn = true ∧
          ¬ ((19 / 20 : Rat) * (s.desiredRps * 51200) ≤ (s.statusWork.actualVelocity.toNat : Rat) ∧
            (s.statusWork.actualVelocity.toNat : Rat) ≤ (11 / 10 : Rat) * (s.desiredRps * 51200)) then
        fails .velocityOutOfBand .faulted
      else { s with seqPc := .step (k + 1) .issue })

/-- R184, R238: CLOSE by the LINK's answer (without one the requester waits, R273; log 2), and RET with the value of rule R183
(CLOSE keeps the answer in `closeResult`: log 7). -/
def Obligations.CloseAndRetMoves : Prop :=
  ∀ (s : State) (k : Nat), s.seqPc = .step k .issue →
    (s.currentOp = some .closeLink → s.closeAnswers = [] → requesterMove s = .next s) ∧
    (∀ b rest, s.currentOp = some .closeLink → s.closeAnswers = b :: rest →
      requesterMove s = .next
        { s with
          closeAnswers := rest, channelOpen := false, lifecycle := .closed, closeResult := b
          seqPc := .step (k + 1) .issue, outputs := s.outputs ++ [.linkClose b] }) ∧
    (s.currentOp = some (.ret .unit) →
      requesterMove s = .next { s with seqPc := .idle, curCmd := none, outputs := s.outputs ++ [.result (.ok .unit)] }) ∧
    (s.currentOp = some (.ret .statusWork) →
      requesterMove s = .next
        { s with seqPc := .idle, curCmd := none, outputs := s.outputs ++ [.result (.ok (.status s.statusWork))] }) ∧
    (s.currentOp = some (.ret .closeResult) →
      requesterMove s = .next
        { s with seqPc := .idle, curCmd := none, outputs := s.outputs ++ [.result (.ok (.bool s.closeResult))] })

/-! ### Commands -/

/-- R231, R232: a command that the legality table accepts, on a port that is not busy: it becomes CUR_CMD with SEQ_PC at
(1, Issue), and nothing else changes. -/
def Obligations.CommandsAccepted : Prop :=
  ∀ (s : State) (rps : Rat) (b : Bool), s.curCmd = none →
    (s.lifecycle = .uninitialized →
      exec (.start rps) s = .next { s with curCmd := some (.start rps), seqPc := .step 1 .issue }) ∧
    (s.lifecycle = .running ∨ s.lifecycle = .faulted →
      exec (.setVelocity rps) s = .next { s with curCmd := some (.setVelocity rps), seqPc := .step 1 .issue } ∧
      exec .resetPositionCounter s = .next { s with curCmd := some .resetPositionCounter, seqPc := .step 1 .issue } ∧
      exec .checkStatus s = .next { s with curCmd := some .checkStatus, seqPc := .step 1 .issue } ∧
      exec (.reset rps) s = .next { s with curCmd := some (.reset rps), seqPc := .step 1 .issue } ∧
      exec .close s = .next { s with curCmd := some .close, seqPc := .step 1 .issue }) ∧
    (s.lifecycle ≠ .configuring →
      exec (.enableStallException b) s =
          .next { s with curCmd := some (.enableStallException b), seqPc := .step 1 .issue } ∧
      exec (.enableVelocityException b) s =
          .next { s with curCmd := some (.enableVelocityException b), seqPc := .step 1 .issue })

/-- R231, R232, and the model's form of a refusal (log 14): a command that the legality table refuses sends no frame and
changes no register; the refusal mark is set and the caller gets the result of rule R14. -/
def Obligations.CommandsRefused : Prop :=
  ∀ (s : State) (rps : Rat), s.curCmd = none →
    (s.lifecycle = .running ∨ s.lifecycle = .faulted ∨ s.lifecycle = .closed →
      exec (.start rps) s = .next { s with refusalMark := true, outputs := s.outputs ++ [.result .refused] }) ∧
    (s.lifecycle = .uninitialized ∨ s.lifecycle = .closed →
      ∀ i ∈ [Instr.setVelocity rps, .resetPositionCounter, .checkStatus, .reset rps, .close],
        exec i s = .next { s with refusalMark := true, outputs := s.outputs ++ [.result .refused] })

/-- R231 and the model's form of it (log 15): while a command is in progress, or STATE is Configuring, the port has no move:
the command changes nothing, and the caller's offer stays. -/
def Obligations.CommandPortBusy : Prop :=
  ∀ (s : State), s.curCmd ≠ none ∨ s.lifecycle = .configuring →
    (∀ c : Command, exec (commandInstr c) s = .next s) ∧ agentMove .caller s = .next s

/-- R195, R187: a whole `setVelocity`, by the turns of its three or four micro-operations: on [0, 5] DESIRED_RPS, one
W.VMAX frame, Ok; outside it InvalidVelocity, no frame and no other change. The turns are the
schedule's (log 1), the inputs the environment's lists (log 2). -/
def Obligations.SetVelocityRuns : Prop :=
  ∀ (s : State) (rps : Rat) (cmds : List Command) (sch : List Agent), s.curCmd = none →
    s.lifecycle = .running ∨ s.lifecycle = .faulted → s.cmdIn = .setVelocity rps :: cmds →
      (0 ≤ rps → rps ≤ 5 →
        s.schedule = [.caller, .requester, .requester, .requester, .settleTimer, .requester] ++ sch →
          steps 6 s = .next
            { s with
              desiredRps := rps, curCmd := none, seqPc := .idle, settleTimer := .disarmed, cmdIn := cmds, schedule := sch
              outputs :=
                s.outputs ++ [.tx (encodeWrite s.cfg.slaveAddress s.cfg.regVmax (vreg rps)), .result (.ok .unit)] }) ∧
      (rps < 0 ∨ 5 < rps → s.schedule = [.caller, .requester] ++ sch →
        steps 2 s = .next
          { s with
            curCmd := none, seqPc := .idle, cmdIn := cmds, schedule := sch
            outputs := s.outputs ++ [.result (.err .invalidVelocity)] })

/-- R196: a whole `resetPositionCounter`: one W.XACTUAL frame with data 0, then Ok. The turns are the
schedule's (log 1), the inputs the environment's lists (log 2). -/
def Obligations.ResetPositionCounterRuns : Prop :=
  ∀ (s : State) (cmds : List Command) (sch : List Agent), s.curCmd = none →
    s.lifecycle = .running ∨ s.lifecycle = .faulted → s.cmdIn = .resetPositionCounter :: cmds →
      s.schedule = [.caller, .requester, .settleTimer, .requester] ++ sch →
        steps 4 s = .next
          { s with
            curCmd := none, seqPc := .idle, settleTimer := .disarmed, cmdIn := cmds, schedule := sch
            outputs := s.outputs ++ [.tx (encodeWrite s.cfg.slaveAddress s.cfg.regXactual 0), .result (.ok .unit)] }

/-- R205, R206, R207, R211: a whole `checkStatus` whose two reads are answered by valid replies: the two requests in order,
and the status decoded from the two replies, when EVAL raises nothing. The turns are the
schedule's (log 1), the inputs the environment's lists (log 2). -/
def Obligations.CheckStatusRuns : Prop :=
  ∀ (s : State) (r1 r2 : Byte) (d1 d2 : Word) (cmds : List Command) (rx : List (List Byte)) (sch : List Agent),
    s.curCmd = none → s.lifecycle = .running ∨ s.lifecycle = .faulted → s.lock = .free → s.cmdIn = .checkStatus :: cmds →
      s.rxIn = mkReply r1 d1 :: mkReply r2 d2 :: rx →
        s.schedule = [.caller, .requester] ++ readTurns ++ readTurns ++ [.requester, .requester] ++ sch →
          ∀ status, status = decodeStatus .driverError r2 d2
              (decodeStatus .velocity r1 d1 (MotorStatus.fresh s.cfg.dataCorruptInit)) →
            evalStatus status s.stallExcEn s.velExcEn s.desiredRps = none →
              steps 10 s = .next
                { s with
                  curCmd := none, seqPc := .idle, statusWork := status, pendingReply := .full (mkReply r2 d2)
                  waiting := false, wake := .signalled, readTimer := .disarmed, cmdIn := cmds, rxIn := rx, schedule := sch
                  outputs :=
                    s.outputs ++ [.tx (encodeRead s.cfg.slaveAddress 0x22), .tx (encodeRead s.cfg.slaveAddress 0x6F),
                      .result (.ok (.status status))] }

/-- R146, R147, R211, R220: a `checkStatus` whose first read is ended by the timer: Timeout, the second request is not sent,
STATE is as it was. The turns are the
schedule's (log 1), the inputs the environment's lists (log 2). -/
def Obligations.CheckStatusTimesOut : Prop :=
  ∀ (s : State) (cmds : List Command) (sch : List Agent), s.curCmd = none →
    s.lifecycle = .running ∨ s.lifecycle = .faulted → s.lock = .free → s.cmdIn = .checkStatus :: cmds →
      s.schedule = [.caller, .requester, .requester, .readTimer, .requester] ++ sch →
        steps 5 s = .next
          { s with
            curCmd := none, seqPc := .idle, statusWork := MotorStatus.fresh s.cfg.dataCorruptInit, pendingReply := .empty
            waiting := false, wake := .timedOut, readTimer := .disarmed, cmdIn := cmds, schedule := sch
            outputs := s.outputs ++ [.tx (encodeRead s.cfg.slaveAddress 0x22), .result (.err .timeout)] }

/-- R236, R237: a whole enable command: the flag is written, no frame is sent, Ok. The turns are the
schedule's (log 1), the inputs the environment's lists (log 2). -/
def Obligations.EnableCommandsRun : Prop :=
  ∀ (s : State) (b : Bool) (cmds : List Command) (sch : List Agent), s.curCmd = none → s.lifecycle ≠ .configuring →
    s.schedule = [.caller, .requester, .requester] ++ sch →
      (s.cmdIn = .enableStallException b :: cmds →
        steps 3 s = .next
          { s with
            stallExcEn := b, curCmd := none, seqPc := .idle, cmdIn := cmds, schedule := sch
            outputs := s.outputs ++ [.result (.ok .unit)] }) ∧
      (s.cmdIn = .enableVelocityException b :: cmds →
        steps 3 s = .next
          { s with
            velExcEn := b, curCmd := none, seqPc := .idle, cmdIn := cmds, schedule := sch
            outputs := s.outputs ++ [.result (.ok .unit)] })

/-- R238: a whole `close`: one LINK event, no frame, CHANNEL_OPEN false, STATE Closed, the LINK's answer as the result. The turns are the
schedule's (log 1), the inputs the environment's lists (log 2). -/
def Obligations.CloseRuns : Prop :=
  ∀ (s : State) (b : Bool) (answers : List Bool) (cmds : List Command) (sch : List Agent), s.curCmd = none →
    s.lifecycle = .running ∨ s.lifecycle = .faulted → s.cmdIn = .close :: cmds → s.closeAnswers = b :: answers →
      s.schedule = [.caller, .requester, .requester] ++ sch →
        steps 3 s = .next
          { s with
            lifecycle := .closed, channelOpen := false, closeResult := b, curCmd := none, seqPc := .idle
            closeAnswers := answers, cmdIn := cmds, schedule := sch
            outputs := s.outputs ++ [.linkClose b, .result (.ok (.bool b))] }

/-- R183, R192, R193: a whole `start` whose open succeeds and whose four read-backs are answered with the words written, under
any register bytes: it ends in Running after the 22 frames of rule R192 in their order. The turns are the
schedule's (log 1), the inputs the environment's lists (log 2). -/
def Obligations.StartConfiguresAndRuns : Prop :=
  ∀ (s : State) (rps : Rat) (r1 r2 r3 r4 : Byte) (cmds : List Command) (answers : List OpenAnswer)
    (rx : List (List Byte)) (sch : List Agent),
    s.curCmd = none → s.lifecycle = .uninitialized → s.lock = .free → 0 ≤ rps → rps ≤ 5 → s.cmdIn = .start rps :: cmds →
      s.openAnswers = .ok :: answers →
        s.rxIn = [mkReply r1 s.cfg.cfgGconf, mkReply r2 s.cfg.cfgChopconf, mkReply r3 0,
          mkReply r4 s.cfg.rampmodePosition] ++ rx →
          s.schedule = [.caller, .requester, .requester] ++ configTurns ++ [.requester] ++ sch →
            steps 55 s = .next
              { s with
                lifecycle := .running, desiredRps := rps, channelOpen := true, curCmd := none, seqPc := .idle
                pendingReply := .full (mkReply r4 s.cfg.rampmodePosition), waiting := false, wake := .signalled
                readTimer := .disarmed, settleTimer := .disarmed, cmdIn := cmds, rxIn := rx, openAnswers := answers
                schedule := sch
                outputs :=
                  s.outputs ++ [.linkOpen .ok] ++ (configFrames s.cfg rps).map Output.tx ++ [.result (.ok .unit)] }

/-- R183, R192, R213, R214: a whole `reset` in Running or Faulted, its read-backs answered with the words written: the same 22
frames, no LINK event, and Running; the enables keep their values. The turns are the
schedule's (log 1), the inputs the environment's lists (log 2). -/
def Obligations.ResetReconfigures : Prop :=
  ∀ (s : State) (rps : Rat) (r1 r2 r3 r4 : Byte) (cmds : List Command) (rx : List (List Byte)) (sch : List Agent),
    s.curCmd = none → s.lifecycle = .running ∨ s.lifecycle = .faulted → s.lock = .free → 0 ≤ rps → rps ≤ 5 →
      s.cmdIn = .reset rps :: cmds →
        s.rxIn = [mkReply r1 s.cfg.cfgGconf, mkReply r2 s.cfg.cfgChopconf, mkReply r3 0,
          mkReply r4 s.cfg.rampmodePosition] ++ rx →
          s.schedule = [.caller, .requester, .requester] ++ configTurns ++ [.requester] ++ sch →
            steps 55 s = .next
              { s with
                lifecycle := .running, desiredRps := rps, curCmd := none, seqPc := .idle
                pendingReply := .full (mkReply r4 s.cfg.rampmodePosition), waiting := false, wake := .signalled
                readTimer := .disarmed, settleTimer := .disarmed, cmdIn := cmds, rxIn := rx, schedule := sch
                outputs := s.outputs ++ (configFrames s.cfg rps).map Output.tx ++ [.result (.ok .unit)] }

/-! ### The step -/

/-- R4, R184: when the requester moves at a W or a read in phase Issue, the delivery context has a Y frame, or the caller has a
command for a port that is not busy, the step is that instruction's meaning, on the state with the turn (`tick`) and the input
taken (logs 1, 2). -/
def Obligations.StepRunsDecodedInstruction : Prop :=
  ∀ s : State,
    (∀ frame i, nextAgent s = .requester → s.issuedWrite = some frame ∨ s.issuedRead = some frame →
      decode .tx frame = .ok i → step s = exec i s.tick) ∧
    (∀ buf rest i, nextAgent s = .delivery → s.rxIn = buf :: rest → s.lock = .free → decode .rx buf = .ok i →
      step s = exec i { s.tick with rxIn := rest }) ∧
    ∀ c rest, nextAgent s = .caller → s.cmdIn = c :: rest → s.curCmd = none → s.lifecycle ≠ .configuring →
      step s = exec (commandInstr c) { s.tick with cmdIn := rest }

/-- The host's placement (log 22): a table word that decodes to a well-formed instruction runs as the very next step, and
runs to a next state. -/
def Obligations.PlacedFrameRuns : Prop :=
  ∀ (s : State) (nbits w : Nat) (i : Instr), decodeTableWord nbits w = some i → WellFormed i →
    step (s.withFetchWord nbits w) = exec i { (s.withFetchWord nbits w).tick with rxIn := s.rxIn } ∧
      ∃ t, step (s.withFetchWord nbits w) = .next t

/-! ### Reset and invariants -/

/-- R9, R291, R292: the value each register of the spec holds after block reset, under every configuration: the parameters
STALL_EXC_RESET, VEL_EXC_RESET and DATA_CORRUPT_INIT are the configuration's (D20, D22), and at the spec's own defaults they are
false, false and true. -/
def Obligations.ResetState : Prop :=
  (∀ c : Config,
    (State.resetWith c).cfg = c ∧ (State.resetWith c).lifecycle = .uninitialized ∧ (State.resetWith c).desiredRps = 0 ∧
    (State.resetWith c).stallExcEn = c.stallExcReset ∧ (State.resetWith c).velExcEn = c.velExcReset ∧
    (State.resetWith c).channelOpen = false ∧ (State.resetWith c).curCmd = none ∧ (State.resetWith c).seqPc = .idle ∧
    (State.resetWith c).pendingReply = .empty ∧ (State.resetWith c).lock = .free ∧ (State.resetWith c).waiting = false ∧
    (State.resetWith c).wake = .none ∧
    (State.resetWith c).statusWork =
      { actualVelocity := 0, dataCorrupt := c.dataCorruptInit, stall := false, overTempPrewarning := false, overTemp := false
        openLoadA := false, openLoadB := false, shortToGroundA := false, shortToGroundB := false } ∧
    (State.resetWith c).readTimer = .disarmed ∧ (State.resetWith c).settleTimer = .disarmed) ∧
  State.reset = State.resetWith Config.initial ∧ State.reset.stallExcEn = false ∧ State.reset.velExcEn = false ∧
    State.reset.statusWork.dataCorrupt = true

/-- The invariant holds after block reset, under every configuration. -/
def Obligations.ResetInv : Prop :=
  Inv State.reset ∧ ∀ c : Config, Inv (State.resetWith c)

/-- Every step keeps the invariant, whichever agent moves: SEQ_PC points into the micro-program of CUR_CMD, the phases and the
timers fit it, LOCK is Free between steps, DESIRED_RPS is in [0, 5] (R33), STATE and CHANNEL_OPEN fit the command. -/
def Obligations.StepKeepsInv : Prop :=
  ∀ s t : State, Inv s → step s = .next t → Inv t

/-- Under the invariant every step answers a next state: no fault and no refusal is reachable (logs 13, 20). -/
def Obligations.StepNeverStops : Prop :=
  ∀ s : State, Inv s → ∃ t, step s = .next t

/-- R181: every change of STATE is one of the table's, made in the command the table names. -/
def Obligations.LifecycleTransitions : Prop :=
  ∀ s t : State, Inv s → step s = .next t → t.lifecycle ≠ s.lifecycle →
    match s.curCmd with
    | some (.start _) =>
      s.lifecycle = .uninitialized ∧ t.lifecycle = .configuring ∨
        s.lifecycle = .configuring ∧ (t.lifecycle = .running ∨ t.lifecycle = .faulted)
    | some (.reset _) =>
      (s.lifecycle = .running ∨ s.lifecycle = .faulted) ∧ t.lifecycle = .configuring ∨
        s.lifecycle = .configuring ∧ (t.lifecycle = .running ∨ t.lifecycle = .faulted)
    | some .checkStatus => s.lifecycle = .running ∧ t.lifecycle = .faulted
    | some .close => (s.lifecycle = .running ∨ s.lifecycle = .faulted) ∧ t.lifecycle = .closed
    | _ => False

/-- R4, R61, R65, R68: a step makes at most two output events, the second only a result. A frame goes out only in the
requester's turn at a W or a read in phase Issue, and is that micro-operation's whole frame, for one of the configured
registers. -/
def Obligations.OutputsOfAStep : Prop :=
  ∀ s t : State, step s = .next t →
    t.outputs = s.outputs ∨
    (∃ k reg v, nextAgent s = .requester ∧ s.seqPc = .step k .issue ∧ s.currentOp = some (.write reg v) ∧
      reg ∈ s.cfg.addresses ∧ t.outputs = s.outputs ++ [.tx (encodeWrite s.cfg.slaveAddress reg v)]) ∨
    (∃ k reg v kind, nextAgent s = .requester ∧ s.seqPc = .step k .issue ∧
      (s.currentOp = some (.readBack reg v) ∨ s.currentOp = some (.readStatus kind reg)) ∧
      reg ∈ s.cfg.addresses ∧ t.outputs = s.outputs ++ [.tx (encodeRead s.cfg.slaveAddress reg)]) ∨
    (∃ a, nextAgent s = .requester ∧ s.currentOp = some .openLink ∧
      (t.outputs = s.outputs ++ [.linkOpen a] ∨ ∃ e, t.outputs = s.outputs ++ [.linkOpen a, .result (.err e)])) ∨
    (∃ b, nextAgent s = .requester ∧ s.currentOp = some .closeLink ∧ t.outputs = s.outputs ++ [.linkClose b]) ∨
    ∃ r, t.outputs = s.outputs ++ [.result r]

/-- R14, R37, R184, R231, R262: a command's result ends it, and nothing else does: a step either leaves the command in progress
and emits no result at all, or ends it with exactly one result, the last of the step's events and no refusal. With no command in
progress a step emits nothing, or one refusal, in the caller's turn (the form of a refusal is the model's, log 14). -/
def Obligations.ResultsEndCommands : Prop :=
  ∀ s t : State, step s = .next t →
    (∀ c, s.curCmd = some c →
      (t.curCmd = some c ∧ ∃ evs, t.outputs = s.outputs ++ evs ∧ ∀ r, Output.result r ∉ evs) ∨
        (t.curCmd = none ∧ t.seqPc = .idle ∧
          ∃ evs r, r ≠ .refused ∧ t.outputs = s.outputs ++ evs ++ [.result r] ∧ ∀ r', Output.result r' ∉ evs)) ∧
    (s.curCmd = none →
      t.outputs = s.outputs ∨
        nextAgent s = .caller ∧ t.outputs = s.outputs ++ [.result .refused] ∧ t.curCmd = none ∧ t.refusalMark = true)

/-- R254: an error ends a command only at a micro-operation that raises it, in a command that can end in it. -/
def Obligations.ErrorsAreRaisedWhereTheTableSays : Prop :=
  ∀ (s t : State) (pre : List Output) (e : CmdError), step s = .next t →
    t.outputs = s.outputs ++ pre ++ [.result (.err e)] →
      ∃ c op, s.curCmd = some c ∧ s.currentOp = some op ∧ e ∈ errorsRaisedBy op ∧ e ∈ errorsOfCommand c

/-- R33 to R36, R45: each control register changes only at the micro-operation that writes it, to the value it names. -/
def Obligations.ControlRegisterWriters : Prop :=
  ∀ s t : State, step s = .next t →
    (t.desiredRps ≠ s.desiredRps → s.currentOp = some (.setRps t.desiredRps)) ∧
    (t.stallExcEn ≠ s.stallExcEn → s.curCmd = some (.enableStallException t.stallExcEn)) ∧
    (t.velExcEn ≠ s.velExcEn → s.curCmd = some (.enableVelocityException t.velExcEn)) ∧
    (t.channelOpen ≠ s.channelOpen →
      s.currentOp = some .openLink ∧ t.channelOpen = true ∨ s.currentOp = some .closeLink ∧ t.channelOpen = false)

/-- R39, R41, R44: the slot changes only by a delivery or a step A, WAITING and WAKE only by a step of a read, a delivery or the
timer, STATUS_WORK only by FRESH and a status read. -/
def Obligations.ReadUnitWriters : Prop :=
  ∀ s t : State, step s = .next t →
    (t.pendingReply ≠ s.pendingReply →
      (nextAgent s = .delivery ∧ ∃ buf, s.rxIn.head? = some buf ∧ t.pendingReply = .full buf) ∨
        nextAgent s = .requester ∧ atRead s = true ∧ t.pendingReply = .empty) ∧
    (t.waiting ≠ s.waiting → nextAgent s = .requester ∧ atRead s = true) ∧
    (t.wake ≠ s.wake →
      nextAgent s = .requester ∧ atRead s = true ∧ t.wake = .none ∨
        nextAgent s = .delivery ∧ s.waiting = true ∧ t.wake = .signalled ∨
        nextAgent s = .readTimer ∧ s.waiting = true ∧ t.wake = .timedOut) ∧
    (t.statusWork ≠ s.statusWork →
      nextAgent s = .requester ∧ (s.currentOp = some .fresh ∨ ∃ kind r, s.currentOp = some (.readStatus kind r)))

/-- R231, R293 and logs 3 and 19: no step changes the configuration, clears the refusal mark or takes back an output event. -/
def Obligations.KeptForTheWholeRun : Prop :=
  ∀ (n : Nat) (s t : State), steps n s = .next t →
    t.cfg = s.cfg ∧ (s.refusalMark = true → t.refusalMark = true) ∧ s.outputs <+: t.outputs

/-- R32, R238: Closed is terminal: over any number of steps from a Closed state that meets the invariant, STATE stays Closed and
no frame goes out. -/
def Obligations.ClosedIsTerminal : Prop :=
  ∀ (n : Nat) (s t : State), Inv s → s.lifecycle = .closed → steps n s = .next t →
    Inv t ∧ t.lifecycle = .closed ∧ ∀ frame, Output.tx frame ∈ t.outputs → Output.tx frame ∈ s.outputs

/-- R43: outside `checkStatus`, STATUS_WORK does not influence a step. -/
def Obligations.StatusWorkUnobservable : Prop :=
  ∀ (s t : State) (w : MotorStatus), s.curCmd ≠ some .checkStatus → step s = .next t →
    step { s with statusWork := w } = .next { t with statusWork := w }

end
end

