-- ==== Sys2Proof/Laws/State.lean ====
section
/-! SUPPORT. One lemma for each field under each named update of the state, so that no proof unfolds a record update. -/

namespace Sys2Proof.Machine

open Sys2Proof

/-! ### emit -/

@[simp] theorem State.emit_cfg (s : State) (o : Output) : (s.emit o).cfg = s.cfg := rfl
@[simp] theorem State.emit_lifecycle (s : State) (o : Output) : (s.emit o).lifecycle = s.lifecycle := rfl
@[simp] theorem State.emit_desiredRps (s : State) (o : Output) : (s.emit o).desiredRps = s.desiredRps := rfl
@[simp] theorem State.emit_stallExcEn (s : State) (o : Output) : (s.emit o).stallExcEn = s.stallExcEn := rfl
@[simp] theorem State.emit_velExcEn (s : State) (o : Output) : (s.emit o).velExcEn = s.velExcEn := rfl
@[simp] theorem State.emit_channelOpen (s : State) (o : Output) : (s.emit o).channelOpen = s.channelOpen := rfl
@[simp] theorem State.emit_curCmd (s : State) (o : Output) : (s.emit o).curCmd = s.curCmd := rfl
@[simp] theorem State.emit_seqPc (s : State) (o : Output) : (s.emit o).seqPc = s.seqPc := rfl
@[simp] theorem State.emit_pendingReply (s : State) (o : Output) : (s.emit o).pendingReply = s.pendingReply := rfl
@[simp] theorem State.emit_lock (s : State) (o : Output) : (s.emit o).lock = s.lock := rfl
@[simp] theorem State.emit_waiting (s : State) (o : Output) : (s.emit o).waiting = s.waiting := rfl
@[simp] theorem State.emit_wake (s : State) (o : Output) : (s.emit o).wake = s.wake := rfl
@[simp] theorem State.emit_statusWork (s : State) (o : Output) : (s.emit o).statusWork = s.statusWork := rfl
@[simp] theorem State.emit_readTimer (s : State) (o : Output) : (s.emit o).readTimer = s.readTimer := rfl
@[simp] theorem State.emit_settleTimer (s : State) (o : Output) : (s.emit o).settleTimer = s.settleTimer := rfl
@[simp] theorem State.emit_closeResult (s : State) (o : Output) : (s.emit o).closeResult = s.closeResult := rfl
@[simp] theorem State.emit_refusalMark (s : State) (o : Output) : (s.emit o).refusalMark = s.refusalMark := rfl
@[simp] theorem State.emit_outputs (s : State) (o : Output) : (s.emit o).outputs = s.outputs ++ [o] := rfl
@[simp] theorem State.emit_schedule (s : State) (o : Output) : (s.emit o).schedule = s.schedule := rfl
@[simp] theorem State.emit_cmdIn (s : State) (o : Output) : (s.emit o).cmdIn = s.cmdIn := rfl
@[simp] theorem State.emit_rxIn (s : State) (o : Output) : (s.emit o).rxIn = s.rxIn := rfl
@[simp] theorem State.emit_openAnswers (s : State) (o : Output) : (s.emit o).openAnswers = s.openAnswers := rfl
@[simp] theorem State.emit_closeAnswers (s : State) (o : Output) : (s.emit o).closeAnswers = s.closeAnswers := rfl

/-! ### advance -/

@[simp] theorem State.advance_cfg (s : State) : s.advance.cfg = s.cfg := by unfold State.advance; cases s.seqPc <;> rfl
@[simp] theorem State.advance_lifecycle (s : State) :
    s.advance.lifecycle = s.lifecycle := by unfold State.advance; cases s.seqPc <;> rfl
@[simp] theorem State.advance_desiredRps (s : State) :
    s.advance.desiredRps = s.desiredRps := by unfold State.advance; cases s.seqPc <;> rfl
@[simp] theorem State.advance_stallExcEn (s : State) :
    s.advance.stallExcEn = s.stallExcEn := by unfold State.advance; cases s.seqPc <;> rfl
@[simp] theorem State.advance_velExcEn (s : State) :
    s.advance.velExcEn = s.velExcEn := by unfold State.advance; cases s.seqPc <;> rfl
@[simp] theorem State.advance_channelOpen (s : State) :
    s.advance.channelOpen = s.channelOpen := by unfold State.advance; cases s.seqPc <;> rfl
@[simp] theorem State.advance_curCmd (s : State) : s.advance.curCmd = s.curCmd := by unfold State.advance; cases s.seqPc <;> rfl
theorem State.advance_seqPc_step {s : State} {k : Nat} {p : Phase} (h : s.seqPc = .step k p) :
    s.advance.seqPc = .step (k + 1) .issue := by
  simp [State.advance, h]

theorem State.advance_of_step {s : State} {k : Nat} {p : Phase} (h : s.seqPc = .step k p) :
    s.advance = { s with seqPc := .step (k + 1) .issue } := by
  simp [State.advance, h]

theorem State.advance_seqPc_idle {s : State} (h : s.seqPc = .idle) : s.advance.seqPc = .idle := by
  simp [State.advance, h]

@[simp] theorem State.advance_pendingReply (s : State) :
    s.advance.pendingReply = s.pendingReply := by unfold State.advance; cases s.seqPc <;> rfl
@[simp] theorem State.advance_lock (s : State) : s.advance.lock = s.lock := by unfold State.advance; cases s.seqPc <;> rfl
@[simp] theorem State.advance_waiting (s : State) :
    s.advance.waiting = s.waiting := by unfold State.advance; cases s.seqPc <;> rfl
@[simp] theorem State.advance_wake (s : State) : s.advance.wake = s.wake := by unfold State.advance; cases s.seqPc <;> rfl
@[simp] theorem State.advance_statusWork (s : State) :
    s.advance.statusWork = s.statusWork := by unfold State.advance; cases s.seqPc <;> rfl
@[simp] theorem State.advance_readTimer (s : State) :
    s.advance.readTimer = s.readTimer := by unfold State.advance; cases s.seqPc <;> rfl
@[simp] theorem State.advance_settleTimer (s : State) :
    s.advance.settleTimer = s.settleTimer := by unfold State.advance; cases s.seqPc <;> rfl
@[simp] theorem State.advance_closeResult (s : State) :
    s.advance.closeResult = s.closeResult := by unfold State.advance; cases s.seqPc <;> rfl
@[simp] theorem State.advance_refusalMark (s : State) :
    s.advance.refusalMark = s.refusalMark := by unfold State.advance; cases s.seqPc <;> rfl
@[simp] theorem State.advance_outputs (s : State) :
    s.advance.outputs = s.outputs := by unfold State.advance; cases s.seqPc <;> rfl
@[simp] theorem State.advance_schedule (s : State) :
    s.advance.schedule = s.schedule := by unfold State.advance; cases s.seqPc <;> rfl
@[simp] theorem State.advance_cmdIn (s : State) : s.advance.cmdIn = s.cmdIn := by unfold State.advance; cases s.seqPc <;> rfl
@[simp] theorem State.advance_rxIn (s : State) : s.advance.rxIn = s.rxIn := by unfold State.advance; cases s.seqPc <;> rfl
@[simp] theorem State.advance_openAnswers (s : State) :
    s.advance.openAnswers = s.openAnswers := by unfold State.advance; cases s.seqPc <;> rfl
@[simp] theorem State.advance_closeAnswers (s : State) :
    s.advance.closeAnswers = s.closeAnswers := by unfold State.advance; cases s.seqPc <;> rfl

/-! ### setPhase -/

@[simp] theorem State.setPhase_cfg (s : State) (p : Phase) :
    (s.setPhase p).cfg = s.cfg := by unfold State.setPhase; cases s.seqPc <;> rfl
@[simp] theorem State.setPhase_lifecycle (s : State) (p : Phase) :
    (s.setPhase p).lifecycle = s.lifecycle := by unfold State.setPhase; cases s.seqPc <;> rfl
@[simp] theorem State.setPhase_desiredRps (s : State) (p : Phase) :
    (s.setPhase p).desiredRps = s.desiredRps := by unfold State.setPhase; cases s.seqPc <;> rfl
@[simp] theorem State.setPhase_stallExcEn (s : State) (p : Phase) :
    (s.setPhase p).stallExcEn = s.stallExcEn := by unfold State.setPhase; cases s.seqPc <;> rfl
@[simp] theorem State.setPhase_velExcEn (s : State) (p : Phase) :
    (s.setPhase p).velExcEn = s.velExcEn := by unfold State.setPhase; cases s.seqPc <;> rfl
@[simp] theorem State.setPhase_channelOpen (s : State) (p : Phase) :
    (s.setPhase p).channelOpen = s.channelOpen := by unfold State.setPhase; cases s.seqPc <;> rfl
@[simp] theorem State.setPhase_curCmd (s : State) (p : Phase) :
    (s.setPhase p).curCmd = s.curCmd := by unfold State.setPhase; cases s.seqPc <;> rfl
theorem State.setPhase_seqPc_step {s : State} {k : Nat} {p : Phase} (q : Phase) (h : s.seqPc = .step k p) :
    (s.setPhase q).seqPc = .step k q := by
  simp [State.setPhase, h]

@[simp] theorem State.setPhase_pendingReply (s : State) (p : Phase) :
    (s.setPhase p).pendingReply = s.pendingReply := by unfold State.setPhase; cases s.seqPc <;> rfl
@[simp] theorem State.setPhase_lock (s : State) (p : Phase) :
    (s.setPhase p).lock = s.lock := by unfold State.setPhase; cases s.seqPc <;> rfl
@[simp] theorem State.setPhase_waiting (s : State) (p : Phase) :
    (s.setPhase p).waiting = s.waiting := by unfold State.setPhase; cases s.seqPc <;> rfl
@[simp] theorem State.setPhase_wake (s : State) (p : Phase) :
    (s.setPhase p).wake = s.wake := by unfold State.setPhase; cases s.seqPc <;> rfl
@[simp] theorem State.setPhase_statusWork (s : State) (p : Phase) :
    (s.setPhase p).statusWork = s.statusWork := by unfold State.setPhase; cases s.seqPc <;> rfl
@[simp] theorem State.setPhase_readTimer (s : State) (p : Phase) :
    (s.setPhase p).readTimer = s.readTimer := by unfold State.setPhase; cases s.seqPc <;> rfl
@[simp] theorem State.setPhase_settleTimer (s : State) (p : Phase) :
    (s.setPhase p).settleTimer = s.settleTimer := by unfold State.setPhase; cases s.seqPc <;> rfl
@[simp] theorem State.setPhase_closeResult (s : State) (p : Phase) :
    (s.setPhase p).closeResult = s.closeResult := by unfold State.setPhase; cases s.seqPc <;> rfl
@[simp] theorem State.setPhase_refusalMark (s : State) (p : Phase) :
    (s.setPhase p).refusalMark = s.refusalMark := by unfold State.setPhase; cases s.seqPc <;> rfl
@[simp] theorem State.setPhase_outputs (s : State) (p : Phase) :
    (s.setPhase p).outputs = s.outputs := by unfold State.setPhase; cases s.seqPc <;> rfl
@[simp] theorem State.setPhase_schedule (s : State) (p : Phase) :
    (s.setPhase p).schedule = s.schedule := by unfold State.setPhase; cases s.seqPc <;> rfl
@[simp] theorem State.setPhase_cmdIn (s : State) (p : Phase) :
    (s.setPhase p).cmdIn = s.cmdIn := by unfold State.setPhase; cases s.seqPc <;> rfl
@[simp] theorem State.setPhase_rxIn (s : State) (p : Phase) :
    (s.setPhase p).rxIn = s.rxIn := by unfold State.setPhase; cases s.seqPc <;> rfl
@[simp] theorem State.setPhase_openAnswers (s : State) (p : Phase) :
    (s.setPhase p).openAnswers = s.openAnswers := by unfold State.setPhase; cases s.seqPc <;> rfl
@[simp] theorem State.setPhase_closeAnswers (s : State) (p : Phase) :
    (s.setPhase p).closeAnswers = s.closeAnswers := by unfold State.setPhase; cases s.seqPc <;> rfl

/-! ### finish -/

@[simp] theorem State.finish_cfg (s : State) (r : CmdResult) : (s.finish r).cfg = s.cfg := rfl
@[simp] theorem State.finish_lifecycle (s : State) (r : CmdResult) : (s.finish r).lifecycle = s.lifecycle := rfl
@[simp] theorem State.finish_desiredRps (s : State) (r : CmdResult) : (s.finish r).desiredRps = s.desiredRps := rfl
@[simp] theorem State.finish_stallExcEn (s : State) (r : CmdResult) : (s.finish r).stallExcEn = s.stallExcEn := rfl
@[simp] theorem State.finish_velExcEn (s : State) (r : CmdResult) : (s.finish r).velExcEn = s.velExcEn := rfl
@[simp] theorem State.finish_channelOpen (s : State) (r : CmdResult) : (s.finish r).channelOpen = s.channelOpen := rfl
@[simp] theorem State.finish_curCmd (s : State) (r : CmdResult) : (s.finish r).curCmd = none := rfl
@[simp] theorem State.finish_seqPc (s : State) (r : CmdResult) : (s.finish r).seqPc = .idle := rfl
@[simp] theorem State.finish_pendingReply (s : State) (r : CmdResult) : (s.finish r).pendingReply = s.pendingReply := rfl
@[simp] theorem State.finish_lock (s : State) (r : CmdResult) : (s.finish r).lock = s.lock := rfl
@[simp] theorem State.finish_waiting (s : State) (r : CmdResult) : (s.finish r).waiting = s.waiting := rfl
@[simp] theorem State.finish_wake (s : State) (r : CmdResult) : (s.finish r).wake = s.wake := rfl
@[simp] theorem State.finish_statusWork (s : State) (r : CmdResult) : (s.finish r).statusWork = s.statusWork := rfl
@[simp] theorem State.finish_readTimer (s : State) (r : CmdResult) : (s.finish r).readTimer = s.readTimer := rfl
@[simp] theorem State.finish_settleTimer (s : State) (r : CmdResult) : (s.finish r).settleTimer = s.settleTimer := rfl
@[simp] theorem State.finish_closeResult (s : State) (r : CmdResult) : (s.finish r).closeResult = s.closeResult := rfl
@[simp] theorem State.finish_refusalMark (s : State) (r : CmdResult) : (s.finish r).refusalMark = s.refusalMark := rfl
@[simp] theorem State.finish_outputs (s : State) (r : CmdResult) : (s.finish r).outputs = s.outputs ++ [.result r] := rfl
@[simp] theorem State.finish_schedule (s : State) (r : CmdResult) : (s.finish r).schedule = s.schedule := rfl
@[simp] theorem State.finish_cmdIn (s : State) (r : CmdResult) : (s.finish r).cmdIn = s.cmdIn := rfl
@[simp] theorem State.finish_rxIn (s : State) (r : CmdResult) : (s.finish r).rxIn = s.rxIn := rfl
@[simp] theorem State.finish_openAnswers (s : State) (r : CmdResult) : (s.finish r).openAnswers = s.openAnswers := rfl
@[simp] theorem State.finish_closeAnswers (s : State) (r : CmdResult) : (s.finish r).closeAnswers = s.closeAnswers := rfl

/-! ### raise -/

@[simp] theorem State.raise_cfg (s : State) (e : CmdError) : (s.raise e).cfg = s.cfg := rfl
theorem State.raise_lifecycle {s : State} {c : Command} (e : CmdError) (h : s.curCmd = some c) :
    (s.raise e).lifecycle = stateAfterError c e s.lifecycle := by
  simp [State.raise, h]

theorem State.raise_lifecycle_none {s : State} (e : CmdError) (h : s.curCmd = none) :
    (s.raise e).lifecycle = s.lifecycle := by
  simp [State.raise, h]

@[simp] theorem State.raise_desiredRps (s : State) (e : CmdError) : (s.raise e).desiredRps = s.desiredRps := rfl
@[simp] theorem State.raise_stallExcEn (s : State) (e : CmdError) : (s.raise e).stallExcEn = s.stallExcEn := rfl
@[simp] theorem State.raise_velExcEn (s : State) (e : CmdError) : (s.raise e).velExcEn = s.velExcEn := rfl
@[simp] theorem State.raise_channelOpen (s : State) (e : CmdError) : (s.raise e).channelOpen = s.channelOpen := rfl
@[simp] theorem State.raise_curCmd (s : State) (e : CmdError) : (s.raise e).curCmd = none := rfl
@[simp] theorem State.raise_seqPc (s : State) (e : CmdError) : (s.raise e).seqPc = .idle := rfl
@[simp] theorem State.raise_pendingReply (s : State) (e : CmdError) : (s.raise e).pendingReply = s.pendingReply := rfl
@[simp] theorem State.raise_lock (s : State) (e : CmdError) : (s.raise e).lock = s.lock := rfl
@[simp] theorem State.raise_waiting (s : State) (e : CmdError) : (s.raise e).waiting = s.waiting := rfl
@[simp] theorem State.raise_wake (s : State) (e : CmdError) : (s.raise e).wake = s.wake := rfl
@[simp] theorem State.raise_statusWork (s : State) (e : CmdError) : (s.raise e).statusWork = s.statusWork := rfl
@[simp] theorem State.raise_readTimer (s : State) (e : CmdError) : (s.raise e).readTimer = s.readTimer := rfl
@[simp] theorem State.raise_settleTimer (s : State) (e : CmdError) : (s.raise e).settleTimer = s.settleTimer := rfl
@[simp] theorem State.raise_closeResult (s : State) (e : CmdError) : (s.raise e).closeResult = s.closeResult := rfl
@[simp] theorem State.raise_refusalMark (s : State) (e : CmdError) : (s.raise e).refusalMark = s.refusalMark := rfl
@[simp] theorem State.raise_outputs (s : State) (e : CmdError) : (s.raise e).outputs = s.outputs ++ [.result (.err e)] := rfl
@[simp] theorem State.raise_schedule (s : State) (e : CmdError) : (s.raise e).schedule = s.schedule := rfl
@[simp] theorem State.raise_cmdIn (s : State) (e : CmdError) : (s.raise e).cmdIn = s.cmdIn := rfl
@[simp] theorem State.raise_rxIn (s : State) (e : CmdError) : (s.raise e).rxIn = s.rxIn := rfl
@[simp] theorem State.raise_openAnswers (s : State) (e : CmdError) : (s.raise e).openAnswers = s.openAnswers := rfl
@[simp] theorem State.raise_closeAnswers (s : State) (e : CmdError) : (s.raise e).closeAnswers = s.closeAnswers := rfl

/-! ### retOk -/

@[simp] theorem State.retOk_cfg (s : State) (v : CmdValue) : (s.retOk v).cfg = s.cfg := rfl
@[simp] theorem State.retOk_lifecycle (s : State) (v : CmdValue) : (s.retOk v).lifecycle = s.lifecycle := rfl
@[simp] theorem State.retOk_desiredRps (s : State) (v : CmdValue) : (s.retOk v).desiredRps = s.desiredRps := rfl
@[simp] theorem State.retOk_stallExcEn (s : State) (v : CmdValue) : (s.retOk v).stallExcEn = s.stallExcEn := rfl
@[simp] theorem State.retOk_velExcEn (s : State) (v : CmdValue) : (s.retOk v).velExcEn = s.velExcEn := rfl
@[simp] theorem State.retOk_channelOpen (s : State) (v : CmdValue) : (s.retOk v).channelOpen = s.channelOpen := rfl
@[simp] theorem State.retOk_curCmd (s : State) (v : CmdValue) : (s.retOk v).curCmd = none := rfl
@[simp] theorem State.retOk_seqPc (s : State) (v : CmdValue) : (s.retOk v).seqPc = .idle := rfl
@[simp] theorem State.retOk_pendingReply (s : State) (v : CmdValue) : (s.retOk v).pendingReply = s.pendingReply := rfl
@[simp] theorem State.retOk_lock (s : State) (v : CmdValue) : (s.retOk v).lock = s.lock := rfl
@[simp] theorem State.retOk_waiting (s : State) (v : CmdValue) : (s.retOk v).waiting = s.waiting := rfl
@[simp] theorem State.retOk_wake (s : State) (v : CmdValue) : (s.retOk v).wake = s.wake := rfl
@[simp] theorem State.retOk_statusWork (s : State) (v : CmdValue) : (s.retOk v).statusWork = s.statusWork := rfl
@[simp] theorem State.retOk_readTimer (s : State) (v : CmdValue) : (s.retOk v).readTimer = s.readTimer := rfl
@[simp] theorem State.retOk_settleTimer (s : State) (v : CmdValue) : (s.retOk v).settleTimer = s.settleTimer := rfl
@[simp] theorem State.retOk_closeResult (s : State) (v : CmdValue) : (s.retOk v).closeResult = s.closeResult := rfl
@[simp] theorem State.retOk_refusalMark (s : State) (v : CmdValue) : (s.retOk v).refusalMark = s.refusalMark := rfl
@[simp] theorem State.retOk_outputs (s : State) (v : CmdValue) : (s.retOk v).outputs = s.outputs ++ [.result (.ok v)] := rfl
@[simp] theorem State.retOk_schedule (s : State) (v : CmdValue) : (s.retOk v).schedule = s.schedule := rfl
@[simp] theorem State.retOk_cmdIn (s : State) (v : CmdValue) : (s.retOk v).cmdIn = s.cmdIn := rfl
@[simp] theorem State.retOk_rxIn (s : State) (v : CmdValue) : (s.retOk v).rxIn = s.rxIn := rfl
@[simp] theorem State.retOk_openAnswers (s : State) (v : CmdValue) : (s.retOk v).openAnswers = s.openAnswers := rfl
@[simp] theorem State.retOk_closeAnswers (s : State) (v : CmdValue) : (s.retOk v).closeAnswers = s.closeAnswers := rfl

/-! ### issueWrite -/

@[simp] theorem State.issueWrite_cfg (s : State) (f : List Byte) : (s.issueWrite f).cfg = s.cfg := by simp [State.issueWrite]
@[simp] theorem State.issueWrite_lifecycle (s : State) (f : List Byte) :
    (s.issueWrite f).lifecycle = s.lifecycle := by simp [State.issueWrite]
@[simp] theorem State.issueWrite_desiredRps (s : State) (f : List Byte) :
    (s.issueWrite f).desiredRps = s.desiredRps := by simp [State.issueWrite]
@[simp] theorem State.issueWrite_stallExcEn (s : State) (f : List Byte) :
    (s.issueWrite f).stallExcEn = s.stallExcEn := by simp [State.issueWrite]
@[simp] theorem State.issueWrite_velExcEn (s : State) (f : List Byte) :
    (s.issueWrite f).velExcEn = s.velExcEn := by simp [State.issueWrite]
@[simp] theorem State.issueWrite_channelOpen (s : State) (f : List Byte) :
    (s.issueWrite f).channelOpen = s.channelOpen := by simp [State.issueWrite]
@[simp] theorem State.issueWrite_curCmd (s : State) (f : List Byte) :
    (s.issueWrite f).curCmd = s.curCmd := by simp [State.issueWrite]
theorem State.issueWrite_seqPc_step {s : State} {k : Nat} {p : Phase} (f : List Byte) (h : s.seqPc = .step k p) :
    (s.issueWrite f).seqPc = .step k .settle := by
  simp [State.issueWrite, State.setPhase, State.emit, h]

theorem State.issueWrite_of_step {s : State} {k : Nat} {p : Phase} (f : List Byte) (h : s.seqPc = .step k p) :
    s.issueWrite f =
      { s with outputs := s.outputs ++ [.tx f], seqPc := .step k .settle, settleTimer := .armed } := by
  simp [State.issueWrite, State.setPhase, State.emit, h]

@[simp] theorem State.issueWrite_pendingReply (s : State) (f : List Byte) :
    (s.issueWrite f).pendingReply = s.pendingReply := by simp [State.issueWrite]
@[simp] theorem State.issueWrite_lock (s : State) (f : List Byte) : (s.issueWrite f).lock = s.lock := by simp [State.issueWrite]
@[simp] theorem State.issueWrite_waiting (s : State) (f : List Byte) :
    (s.issueWrite f).waiting = s.waiting := by simp [State.issueWrite]
@[simp] theorem State.issueWrite_wake (s : State) (f : List Byte) : (s.issueWrite f).wake = s.wake := by simp [State.issueWrite]
@[simp] theorem State.issueWrite_statusWork (s : State) (f : List Byte) :
    (s.issueWrite f).statusWork = s.statusWork := by simp [State.issueWrite]
@[simp] theorem State.issueWrite_readTimer (s : State) (f : List Byte) :
    (s.issueWrite f).readTimer = s.readTimer := by simp [State.issueWrite]
@[simp] theorem State.issueWrite_settleTimer (s : State) (f : List Byte) :
    (s.issueWrite f).settleTimer = .armed := by simp [State.issueWrite]
@[simp] theorem State.issueWrite_closeResult (s : State) (f : List Byte) :
    (s.issueWrite f).closeResult = s.closeResult := by simp [State.issueWrite]
@[simp] theorem State.issueWrite_refusalMark (s : State) (f : List Byte) :
    (s.issueWrite f).refusalMark = s.refusalMark := by simp [State.issueWrite]
@[simp] theorem State.issueWrite_outputs (s : State) (f : List Byte) :
    (s.issueWrite f).outputs = s.outputs ++ [.tx f] := by simp [State.issueWrite]
@[simp] theorem State.issueWrite_schedule (s : State) (f : List Byte) :
    (s.issueWrite f).schedule = s.schedule := by simp [State.issueWrite]
@[simp] theorem State.issueWrite_cmdIn (s : State) (f : List Byte) :
    (s.issueWrite f).cmdIn = s.cmdIn := by simp [State.issueWrite]
@[simp] theorem State.issueWrite_rxIn (s : State) (f : List Byte) : (s.issueWrite f).rxIn = s.rxIn := by simp [State.issueWrite]
@[simp] theorem State.issueWrite_openAnswers (s : State) (f : List Byte) :
    (s.issueWrite f).openAnswers = s.openAnswers := by simp [State.issueWrite]
@[simp] theorem State.issueWrite_closeAnswers (s : State) (f : List Byte) :
    (s.issueWrite f).closeAnswers = s.closeAnswers := by simp [State.issueWrite]

/-! ### issueRead -/

@[simp] theorem State.issueRead_cfg (s : State) (f : List Byte) : (s.issueRead f).cfg = s.cfg := by simp [State.issueRead]
@[simp] theorem State.issueRead_lifecycle (s : State) (f : List Byte) :
    (s.issueRead f).lifecycle = s.lifecycle := by simp [State.issueRead]
@[simp] theorem State.issueRead_desiredRps (s : State) (f : List Byte) :
    (s.issueRead f).desiredRps = s.desiredRps := by simp [State.issueRead]
@[simp] theorem State.issueRead_stallExcEn (s : State) (f : List Byte) :
    (s.issueRead f).stallExcEn = s.stallExcEn := by simp [State.issueRead]
@[simp] theorem State.issueRead_velExcEn (s : State) (f : List Byte) :
    (s.issueRead f).velExcEn = s.velExcEn := by simp [State.issueRead]
@[simp] theorem State.issueRead_channelOpen (s : State) (f : List Byte) :
    (s.issueRead f).channelOpen = s.channelOpen := by simp [State.issueRead]
@[simp] theorem State.issueRead_curCmd (s : State) (f : List Byte) :
    (s.issueRead f).curCmd = s.curCmd := by simp [State.issueRead]
theorem State.issueRead_seqPc_step {s : State} {k : Nat} {p : Phase} (f : List Byte) (h : s.seqPc = .step k p) :
    (s.issueRead f).seqPc = .step k .await := by
  simp [State.issueRead, State.setPhase, State.emit, h]

theorem State.issueRead_of_step {s : State} {k : Nat} {p : Phase} (f : List Byte) (h : s.seqPc = .step k p) :
    s.issueRead f =
      { s with pendingReply := .empty, outputs := s.outputs ++ [.tx f], waiting := true, wake := .none, lock := .free,
               readTimer := .armed, seqPc := .step k .await } := by
  simp [State.issueRead, State.setPhase, State.emit, h]

@[simp] theorem State.issueRead_pendingReply (s : State) (f : List Byte) :
    (s.issueRead f).pendingReply = .empty := by simp [State.issueRead]
@[simp] theorem State.issueRead_lock (s : State) (f : List Byte) : (s.issueRead f).lock = .free := by simp [State.issueRead]
@[simp] theorem State.issueRead_waiting (s : State) (f : List Byte) :
    (s.issueRead f).waiting = true := by simp [State.issueRead]
@[simp] theorem State.issueRead_wake (s : State) (f : List Byte) : (s.issueRead f).wake = .none := by simp [State.issueRead]
@[simp] theorem State.issueRead_statusWork (s : State) (f : List Byte) :
    (s.issueRead f).statusWork = s.statusWork := by simp [State.issueRead]
@[simp] theorem State.issueRead_readTimer (s : State) (f : List Byte) :
    (s.issueRead f).readTimer = .armed := by simp [State.issueRead]
@[simp] theorem State.issueRead_settleTimer (s : State) (f : List Byte) :
    (s.issueRead f).settleTimer = s.settleTimer := by simp [State.issueRead]
@[simp] theorem State.issueRead_closeResult (s : State) (f : List Byte) :
    (s.issueRead f).closeResult = s.closeResult := by simp [State.issueRead]
@[simp] theorem State.issueRead_refusalMark (s : State) (f : List Byte) :
    (s.issueRead f).refusalMark = s.refusalMark := by simp [State.issueRead]
@[simp] theorem State.issueRead_outputs (s : State) (f : List Byte) :
    (s.issueRead f).outputs = s.outputs ++ [.tx f] := by simp [State.issueRead]
@[simp] theorem State.issueRead_schedule (s : State) (f : List Byte) :
    (s.issueRead f).schedule = s.schedule := by simp [State.issueRead]
@[simp] theorem State.issueRead_cmdIn (s : State) (f : List Byte) : (s.issueRead f).cmdIn = s.cmdIn := by simp [State.issueRead]
@[simp] theorem State.issueRead_rxIn (s : State) (f : List Byte) : (s.issueRead f).rxIn = s.rxIn := by simp [State.issueRead]
@[simp] theorem State.issueRead_openAnswers (s : State) (f : List Byte) :
    (s.issueRead f).openAnswers = s.openAnswers := by simp [State.issueRead]
@[simp] theorem State.issueRead_closeAnswers (s : State) (f : List Byte) :
    (s.issueRead f).closeAnswers = s.closeAnswers := by simp [State.issueRead]

/-! ### deposit -/

@[simp] theorem State.deposit_cfg (s : State) (buf : List Byte) : (s.deposit buf).cfg = s.cfg := rfl
@[simp] theorem State.deposit_lifecycle (s : State) (buf : List Byte) : (s.deposit buf).lifecycle = s.lifecycle := rfl
@[simp] theorem State.deposit_desiredRps (s : State) (buf : List Byte) : (s.deposit buf).desiredRps = s.desiredRps := rfl
@[simp] theorem State.deposit_stallExcEn (s : State) (buf : List Byte) : (s.deposit buf).stallExcEn = s.stallExcEn := rfl
@[simp] theorem State.deposit_velExcEn (s : State) (buf : List Byte) : (s.deposit buf).velExcEn = s.velExcEn := rfl
@[simp] theorem State.deposit_channelOpen (s : State) (buf : List Byte) : (s.deposit buf).channelOpen = s.channelOpen := rfl
@[simp] theorem State.deposit_curCmd (s : State) (buf : List Byte) : (s.deposit buf).curCmd = s.curCmd := rfl
@[simp] theorem State.deposit_seqPc (s : State) (buf : List Byte) : (s.deposit buf).seqPc = s.seqPc := rfl
@[simp] theorem State.deposit_pendingReply (s : State) (buf : List Byte) : (s.deposit buf).pendingReply = .full buf := rfl
@[simp] theorem State.deposit_lock (s : State) (buf : List Byte) : (s.deposit buf).lock = .free := rfl
@[simp] theorem State.deposit_waiting (s : State) (buf : List Byte) : (s.deposit buf).waiting = s.waiting := rfl
@[simp] theorem State.deposit_wake (s : State) (buf : List Byte) :
    (s.deposit buf).wake = if s.waiting then .signalled else s.wake := rfl
@[simp] theorem State.deposit_statusWork (s : State) (buf : List Byte) : (s.deposit buf).statusWork = s.statusWork := rfl
@[simp] theorem State.deposit_readTimer (s : State) (buf : List Byte) : (s.deposit buf).readTimer = s.readTimer := rfl
@[simp] theorem State.deposit_settleTimer (s : State) (buf : List Byte) : (s.deposit buf).settleTimer = s.settleTimer := rfl
@[simp] theorem State.deposit_closeResult (s : State) (buf : List Byte) : (s.deposit buf).closeResult = s.closeResult := rfl
@[simp] theorem State.deposit_refusalMark (s : State) (buf : List Byte) : (s.deposit buf).refusalMark = s.refusalMark := rfl
@[simp] theorem State.deposit_outputs (s : State) (buf : List Byte) : (s.deposit buf).outputs = s.outputs := rfl
@[simp] theorem State.deposit_schedule (s : State) (buf : List Byte) : (s.deposit buf).schedule = s.schedule := rfl
@[simp] theorem State.deposit_cmdIn (s : State) (buf : List Byte) : (s.deposit buf).cmdIn = s.cmdIn := rfl
@[simp] theorem State.deposit_rxIn (s : State) (buf : List Byte) : (s.deposit buf).rxIn = s.rxIn := rfl
@[simp] theorem State.deposit_openAnswers (s : State) (buf : List Byte) : (s.deposit buf).openAnswers = s.openAnswers := rfl
@[simp] theorem State.deposit_closeAnswers (s : State) (buf : List Byte) : (s.deposit buf).closeAnswers = s.closeAnswers := rfl

/-! ### endWait -/

@[simp] theorem State.endWait_cfg (s : State) : s.endWait.cfg = s.cfg := rfl
@[simp] theorem State.endWait_lifecycle (s : State) : s.endWait.lifecycle = s.lifecycle := rfl
@[simp] theorem State.endWait_desiredRps (s : State) : s.endWait.desiredRps = s.desiredRps := rfl
@[simp] theorem State.endWait_stallExcEn (s : State) : s.endWait.stallExcEn = s.stallExcEn := rfl
@[simp] theorem State.endWait_velExcEn (s : State) : s.endWait.velExcEn = s.velExcEn := rfl
@[simp] theorem State.endWait_channelOpen (s : State) : s.endWait.channelOpen = s.channelOpen := rfl
@[simp] theorem State.endWait_curCmd (s : State) : s.endWait.curCmd = s.curCmd := rfl
@[simp] theorem State.endWait_seqPc (s : State) : s.endWait.seqPc = s.seqPc := rfl
@[simp] theorem State.endWait_pendingReply (s : State) : s.endWait.pendingReply = s.pendingReply := rfl
@[simp] theorem State.endWait_lock (s : State) : s.endWait.lock = .free := rfl
@[simp] theorem State.endWait_waiting (s : State) : s.endWait.waiting = false := rfl
@[simp] theorem State.endWait_wake (s : State) : s.endWait.wake = s.wake := rfl
@[simp] theorem State.endWait_statusWork (s : State) : s.endWait.statusWork = s.statusWork := rfl
@[simp] theorem State.endWait_readTimer (s : State) : s.endWait.readTimer = .disarmed := rfl
@[simp] theorem State.endWait_settleTimer (s : State) : s.endWait.settleTimer = s.settleTimer := rfl
@[simp] theorem State.endWait_closeResult (s : State) : s.endWait.closeResult = s.closeResult := rfl
@[simp] theorem State.endWait_refusalMark (s : State) : s.endWait.refusalMark = s.refusalMark := rfl
@[simp] theorem State.endWait_outputs (s : State) : s.endWait.outputs = s.outputs := rfl
@[simp] theorem State.endWait_schedule (s : State) : s.endWait.schedule = s.schedule := rfl
@[simp] theorem State.endWait_cmdIn (s : State) : s.endWait.cmdIn = s.cmdIn := rfl
@[simp] theorem State.endWait_rxIn (s : State) : s.endWait.rxIn = s.rxIn := rfl
@[simp] theorem State.endWait_openAnswers (s : State) : s.endWait.openAnswers = s.openAnswers := rfl
@[simp] theorem State.endWait_closeAnswers (s : State) : s.endWait.closeAnswers = s.closeAnswers := rfl

/-! ### readTimeout -/

@[simp] theorem State.readTimeout_cfg (s : State) : s.readTimeout.cfg = s.cfg := by unfold State.readTimeout; split <;> rfl
@[simp] theorem State.readTimeout_lifecycle (s : State) :
    s.readTimeout.lifecycle = s.lifecycle := by unfold State.readTimeout; split <;> rfl
@[simp] theorem State.readTimeout_desiredRps (s : State) :
    s.readTimeout.desiredRps = s.desiredRps := by unfold State.readTimeout; split <;> rfl
@[simp] theorem State.readTimeout_stallExcEn (s : State) :
    s.readTimeout.stallExcEn = s.stallExcEn := by unfold State.readTimeout; split <;> rfl
@[simp] theorem State.readTimeout_velExcEn (s : State) :
    s.readTimeout.velExcEn = s.velExcEn := by unfold State.readTimeout; split <;> rfl
@[simp] theorem State.readTimeout_channelOpen (s : State) :
    s.readTimeout.channelOpen = s.channelOpen := by unfold State.readTimeout; split <;> rfl
@[simp] theorem State.readTimeout_curCmd (s : State) :
    s.readTimeout.curCmd = s.curCmd := by unfold State.readTimeout; split <;> rfl
@[simp] theorem State.readTimeout_seqPc (s : State) :
    s.readTimeout.seqPc = s.seqPc := by unfold State.readTimeout; split <;> rfl
@[simp] theorem State.readTimeout_pendingReply (s : State) :
    s.readTimeout.pendingReply = s.pendingReply := by unfold State.readTimeout; split <;> rfl
@[simp] theorem State.readTimeout_lock (s : State) : s.readTimeout.lock = s.lock := by unfold State.readTimeout; split <;> rfl
@[simp] theorem State.readTimeout_waiting (s : State) :
    s.readTimeout.waiting = s.waiting := by unfold State.readTimeout; split <;> rfl
theorem State.readTimeout_of_wait {s : State} (hw : s.waiting = true) (hk : s.wake = .none) (ht : s.readTimer = .armed) :
    s.readTimeout = { s with wake := .timedOut, readTimer := .disarmed } := by
  simp [State.readTimeout, hw, hk, ht]

theorem State.readTimeout_cases (s : State) :
    s.readTimeout = s ∨ (s.waiting = true ∧ s.wake = .none ∧ s.readTimer = .armed ∧
      s.readTimeout = { s with wake := .timedOut, readTimer := .disarmed }) := by
  unfold State.readTimeout
  split
  · next h => exact .inr ⟨h.1, h.2.1, h.2.2, rfl⟩
  · exact .inl rfl

@[simp] theorem State.readTimeout_statusWork (s : State) :
    s.readTimeout.statusWork = s.statusWork := by unfold State.readTimeout; split <;> rfl
@[simp] theorem State.readTimeout_settleTimer (s : State) :
    s.readTimeout.settleTimer = s.settleTimer := by unfold State.readTimeout; split <;> rfl
@[simp] theorem State.readTimeout_closeResult (s : State) :
    s.readTimeout.closeResult = s.closeResult := by unfold State.readTimeout; split <;> rfl
@[simp] theorem State.readTimeout_refusalMark (s : State) :
    s.readTimeout.refusalMark = s.refusalMark := by unfold State.readTimeout; split <;> rfl
@[simp] theorem State.readTimeout_outputs (s : State) :
    s.readTimeout.outputs = s.outputs := by unfold State.readTimeout; split <;> rfl
@[simp] theorem State.readTimeout_schedule (s : State) :
    s.readTimeout.schedule = s.schedule := by unfold State.readTimeout; split <;> rfl
@[simp] theorem State.readTimeout_cmdIn (s : State) :
    s.readTimeout.cmdIn = s.cmdIn := by unfold State.readTimeout; split <;> rfl
@[simp] theorem State.readTimeout_rxIn (s : State) : s.readTimeout.rxIn = s.rxIn := by unfold State.readTimeout; split <;> rfl
@[simp] theorem State.readTimeout_openAnswers (s : State) :
    s.readTimeout.openAnswers = s.openAnswers := by unfold State.readTimeout; split <;> rfl
@[simp] theorem State.readTimeout_closeAnswers (s : State) :
    s.readTimeout.closeAnswers = s.closeAnswers := by unfold State.readTimeout; split <;> rfl

/-! ### settleEnd -/

@[simp] theorem State.settleEnd_cfg (s : State) : s.settleEnd.cfg = s.cfg := by unfold State.settleEnd; split <;> simp
@[simp] theorem State.settleEnd_lifecycle (s : State) :
    s.settleEnd.lifecycle = s.lifecycle := by unfold State.settleEnd; split <;> simp
@[simp] theorem State.settleEnd_desiredRps (s : State) :
    s.settleEnd.desiredRps = s.desiredRps := by unfold State.settleEnd; split <;> simp
@[simp] theorem State.settleEnd_stallExcEn (s : State) :
    s.settleEnd.stallExcEn = s.stallExcEn := by unfold State.settleEnd; split <;> simp
@[simp] theorem State.settleEnd_velExcEn (s : State) :
    s.settleEnd.velExcEn = s.velExcEn := by unfold State.settleEnd; split <;> simp
@[simp] theorem State.settleEnd_channelOpen (s : State) :
    s.settleEnd.channelOpen = s.channelOpen := by unfold State.settleEnd; split <;> simp
@[simp] theorem State.settleEnd_curCmd (s : State) : s.settleEnd.curCmd = s.curCmd := by unfold State.settleEnd; split <;> simp
theorem State.settleEnd_of_settle {s : State} {k : Nat} (h : s.seqPc = .step k .settle) (ht : s.settleTimer = .armed) :
    s.settleEnd = { s with seqPc := .step (k + 1) .issue, settleTimer := .disarmed } := by
  simp [State.settleEnd, State.advance, h, ht]

theorem State.settleEnd_of_disarmed {s : State} (ht : s.settleTimer = .disarmed) : s.settleEnd = s := by
  unfold State.settleEnd; split <;> simp_all

theorem State.settleEnd_of_not_settle {s : State} (h : ∀ k, s.seqPc ≠ .step k .settle) : s.settleEnd = s := by
  unfold State.settleEnd; split <;> simp_all

@[simp] theorem State.settleEnd_pendingReply (s : State) :
    s.settleEnd.pendingReply = s.pendingReply := by unfold State.settleEnd; split <;> simp
@[simp] theorem State.settleEnd_lock (s : State) : s.settleEnd.lock = s.lock := by unfold State.settleEnd; split <;> simp
@[simp] theorem State.settleEnd_waiting (s : State) :
    s.settleEnd.waiting = s.waiting := by unfold State.settleEnd; split <;> simp
@[simp] theorem State.settleEnd_wake (s : State) : s.settleEnd.wake = s.wake := by unfold State.settleEnd; split <;> simp
@[simp] theorem State.settleEnd_statusWork (s : State) :
    s.settleEnd.statusWork = s.statusWork := by unfold State.settleEnd; split <;> simp
@[simp] theorem State.settleEnd_readTimer (s : State) :
    s.settleEnd.readTimer = s.readTimer := by unfold State.settleEnd; split <;> simp
@[simp] theorem State.settleEnd_closeResult (s : State) :
    s.settleEnd.closeResult = s.closeResult := by unfold State.settleEnd; split <;> simp
@[simp] theorem State.settleEnd_refusalMark (s : State) :
    s.settleEnd.refusalMark = s.refusalMark := by unfold State.settleEnd; split <;> simp
@[simp] theorem State.settleEnd_outputs (s : State) :
    s.settleEnd.outputs = s.outputs := by unfold State.settleEnd; split <;> simp
@[simp] theorem State.settleEnd_schedule (s : State) :
    s.settleEnd.schedule = s.schedule := by unfold State.settleEnd; split <;> simp
@[simp] theorem State.settleEnd_cmdIn (s : State) : s.settleEnd.cmdIn = s.cmdIn := by unfold State.settleEnd; split <;> simp
@[simp] theorem State.settleEnd_rxIn (s : State) : s.settleEnd.rxIn = s.rxIn := by unfold State.settleEnd; split <;> simp
@[simp] theorem State.settleEnd_openAnswers (s : State) :
    s.settleEnd.openAnswers = s.openAnswers := by unfold State.settleEnd; split <;> simp
@[simp] theorem State.settleEnd_closeAnswers (s : State) :
    s.settleEnd.closeAnswers = s.closeAnswers := by unfold State.settleEnd; split <;> simp

/-! ### tick -/

@[simp] theorem State.tick_cfg (s : State) : s.tick.cfg = s.cfg := rfl
@[simp] theorem State.tick_lifecycle (s : State) : s.tick.lifecycle = s.lifecycle := rfl
@[simp] theorem State.tick_desiredRps (s : State) : s.tick.desiredRps = s.desiredRps := rfl
@[simp] theorem State.tick_stallExcEn (s : State) : s.tick.stallExcEn = s.stallExcEn := rfl
@[simp] theorem State.tick_velExcEn (s : State) : s.tick.velExcEn = s.velExcEn := rfl
@[simp] theorem State.tick_channelOpen (s : State) : s.tick.channelOpen = s.channelOpen := rfl
@[simp] theorem State.tick_curCmd (s : State) : s.tick.curCmd = s.curCmd := rfl
@[simp] theorem State.tick_seqPc (s : State) : s.tick.seqPc = s.seqPc := rfl
@[simp] theorem State.tick_pendingReply (s : State) : s.tick.pendingReply = s.pendingReply := rfl
@[simp] theorem State.tick_lock (s : State) : s.tick.lock = s.lock := rfl
@[simp] theorem State.tick_waiting (s : State) : s.tick.waiting = s.waiting := rfl
@[simp] theorem State.tick_wake (s : State) : s.tick.wake = s.wake := rfl
@[simp] theorem State.tick_statusWork (s : State) : s.tick.statusWork = s.statusWork := rfl
@[simp] theorem State.tick_readTimer (s : State) : s.tick.readTimer = s.readTimer := rfl
@[simp] theorem State.tick_settleTimer (s : State) : s.tick.settleTimer = s.settleTimer := rfl
@[simp] theorem State.tick_closeResult (s : State) : s.tick.closeResult = s.closeResult := rfl
@[simp] theorem State.tick_refusalMark (s : State) : s.tick.refusalMark = s.refusalMark := rfl
@[simp] theorem State.tick_outputs (s : State) : s.tick.outputs = s.outputs := rfl
@[simp] theorem State.tick_schedule (s : State) : s.tick.schedule = s.schedule.tail := rfl
@[simp] theorem State.tick_cmdIn (s : State) : s.tick.cmdIn = s.cmdIn := rfl
@[simp] theorem State.tick_rxIn (s : State) : s.tick.rxIn = s.rxIn := rfl
@[simp] theorem State.tick_openAnswers (s : State) : s.tick.openAnswers = s.openAnswers := rfl
@[simp] theorem State.tick_closeAnswers (s : State) : s.tick.closeAnswers = s.closeAnswers := rfl

/-! ### resetWith -/

@[simp] theorem State.resetWith_cfg (c : Config) : (State.resetWith c).cfg = c := rfl
@[simp] theorem State.resetWith_lifecycle (c : Config) : (State.resetWith c).lifecycle = .uninitialized := rfl
@[simp] theorem State.resetWith_desiredRps (c : Config) : (State.resetWith c).desiredRps = 0 := rfl
@[simp] theorem State.resetWith_stallExcEn (c : Config) : (State.resetWith c).stallExcEn = c.stallExcReset := rfl
@[simp] theorem State.resetWith_velExcEn (c : Config) : (State.resetWith c).velExcEn = c.velExcReset := rfl
@[simp] theorem State.resetWith_channelOpen (c : Config) : (State.resetWith c).channelOpen = false := rfl
@[simp] theorem State.resetWith_curCmd (c : Config) : (State.resetWith c).curCmd = none := rfl
@[simp] theorem State.resetWith_seqPc (c : Config) : (State.resetWith c).seqPc = .idle := rfl
@[simp] theorem State.resetWith_pendingReply (c : Config) : (State.resetWith c).pendingReply = .empty := rfl
@[simp] theorem State.resetWith_lock (c : Config) : (State.resetWith c).lock = .free := rfl
@[simp] theorem State.resetWith_waiting (c : Config) : (State.resetWith c).waiting = false := rfl
@[simp] theorem State.resetWith_wake (c : Config) : (State.resetWith c).wake = .none := rfl
@[simp] theorem State.resetWith_statusWork (c : Config) :
    (State.resetWith c).statusWork = MotorStatus.fresh c.dataCorruptInit := rfl
@[simp] theorem State.resetWith_readTimer (c : Config) : (State.resetWith c).readTimer = .disarmed := rfl
@[simp] theorem State.resetWith_settleTimer (c : Config) : (State.resetWith c).settleTimer = .disarmed := rfl
@[simp] theorem State.resetWith_closeResult (c : Config) : (State.resetWith c).closeResult = false := rfl
@[simp] theorem State.resetWith_refusalMark (c : Config) : (State.resetWith c).refusalMark = false := rfl
@[simp] theorem State.resetWith_outputs (c : Config) : (State.resetWith c).outputs = [] := rfl
@[simp] theorem State.resetWith_schedule (c : Config) : (State.resetWith c).schedule = [] := rfl
@[simp] theorem State.resetWith_cmdIn (c : Config) : (State.resetWith c).cmdIn = [] := rfl
@[simp] theorem State.resetWith_rxIn (c : Config) : (State.resetWith c).rxIn = [] := rfl
@[simp] theorem State.resetWith_openAnswers (c : Config) : (State.resetWith c).openAnswers = [] := rfl
@[simp] theorem State.resetWith_closeAnswers (c : Config) : (State.resetWith c).closeAnswers = [] := rfl

theorem State.reset_eq : State.reset = State.resetWith Config.initial := rfl

end Sys2Proof.Machine
end

