-- ==== Sys2Proof/Laws/Ops.lean ====
section
/-! SUPPORT. One lemma for each shared operation that says everything it can do, and what an encoder makes of a decoder's
choice of row. -/

namespace Sys2Proof.Machine

open Sys2Proof

/-! ### Rows and bytes -/

/-- A property of a choice between two instructions holds if it holds of each, of the first under the condition. -/
theorem instr_ite {P : Instr → Prop} {c : Prop} [Decidable c] {a b : Instr} (ha : c → P a) (hb : P b) :
    P (if c then a else b) := by
  by_cases h : c
  · rw [if_pos h]; exact ha h
  · rw [if_neg h]; exact hb

/-- Whichever W row the fields belong to, its frame is those fields. -/
@[simp] theorem encode_writeInstr (slave : Byte) (reg : RegAddr) (d : Word) (crc : Byte) :
    encode (writeInstr slave reg d crc) = writeFrame slave reg d crc := by
  unfold writeInstr
  iterate 17 refine instr_ite (P := fun i => encode i = writeFrame slave reg d crc) (fun h => by rw [h]; rfl) ?_
  rfl

/-- Whichever R row the fields belong to, its frame is those fields. -/
@[simp] theorem encode_readInstr (slave : Byte) (reg : RegAddr) (crc : Byte) :
    encode (readInstr slave reg crc) = readFrame slave reg crc := by
  unfold readInstr
  iterate 6 refine instr_ite (P := fun i => encode i = readFrame slave reg crc) (fun h => by rw [h]; rfl) ?_
  rfl

/-- Whichever Y row the fields belong to, its frame is those fields. -/
@[simp] theorem encode_replyInstr (regByte : Byte) (d : Word) (crc : Byte) :
    encode (replyInstr regByte d crc) = replyFrame regByte d crc := by
  unfold replyInstr
  iterate 2 refine instr_ite (P := fun i => encode i = replyFrame regByte d crc) (fun h => by rw [h]; rfl) ?_
  rfl

/-- Every W row transmits its frame. -/
theorem exec_writeInstr (slave : Byte) (reg : RegAddr) (d : Word) (crc : Byte) (s : State) :
    exec (writeInstr slave reg d crc) s = transmitWrite (writeFrame slave reg d crc) s := by
  unfold writeInstr
  iterate 17 refine instr_ite (P := fun i => exec i s = transmitWrite (writeFrame slave reg d crc) s) (fun h => by rw [h]; rfl) ?_
  rfl

/-- Every R row transmits its frame. -/
theorem exec_readInstr (slave : Byte) (reg : RegAddr) (crc : Byte) (s : State) :
    exec (readInstr slave reg crc) s = transmitRead (readFrame slave reg crc) s := by
  unfold readInstr
  iterate 6 refine instr_ite (P := fun i => exec i s = transmitRead (readFrame slave reg crc) s) (fun h => by rw [h]; rfl) ?_
  rfl

/-- Every Y row is received as its frame. -/
theorem exec_replyInstr (regByte : Byte) (d : Word) (crc : Byte) (s : State) :
    exec (replyInstr regByte d crc) s = receive (replyFrame regByte d crc) s := by
  unfold replyInstr
  iterate 2 refine instr_ite (P := fun i => exec i s = receive (replyFrame regByte d crc) s) (fun h => by rw [h]; rfl) ?_
  rfl

/-- A command's instruction is submitted as that command. -/
@[simp] theorem exec_commandInstr (c : Command) (s : State) : exec (commandInstr c) s = submit c s := by
  cases c <;> rfl

/-! ### Shared operations: what they can do -/

/-- A write frame goes out exactly when it is the issued one. -/
theorem transmitWrite_next {f : List Byte} {s t : State} (h : transmitWrite f s = .next t) :
    s.issuedWrite = some f ∧ t = s.issueWrite f := by
  unfold transmitWrite at h
  split at h
  · next hi => exact ⟨hi, (Host.Outcome.next.inj h).symm⟩
  · cases h

theorem transmitWrite_of_issued {f : List Byte} {s : State} (h : s.issuedWrite = some f) :
    transmitWrite f s = .next (s.issueWrite f) := by
  simp [transmitWrite, h]

/-- A read frame goes out when it is the issued one and LOCK is Free; with LOCK held it waits. -/
theorem transmitRead_next {f : List Byte} {s t : State} (h : transmitRead f s = .next t) :
    s.issuedRead = some f ∧ (s.lock = .free ∧ t = s.issueRead f ∨ s.lock ≠ .free ∧ t = s) := by
  unfold transmitRead at h
  split at h
  · next hi =>
    refine ⟨hi, ?_⟩
    split at h
    · next hl => exact .inl ⟨hl, (Host.Outcome.next.inj h).symm⟩
    · next hl => exact .inr ⟨hl, (Host.Outcome.next.inj h).symm⟩
  · cases h

theorem transmitRead_of_issued {f : List Byte} {s : State} (h : s.issuedRead = some f) (hl : s.lock = .free) :
    transmitRead f s = .next (s.issueRead f) := by
  simp [transmitRead, h, hl]

/-- A buffer is deposited when LOCK is Free, and delayed otherwise. -/
theorem receive_next {buf : List Byte} {s t : State} (h : receive buf s = .next t) :
    s.lock = .free ∧ t = s.deposit buf ∨ s.lock ≠ .free ∧ t = s := by
  unfold receive at h
  split at h
  · next hl => exact .inl ⟨hl, (Host.Outcome.next.inj h).symm⟩
  · next hl => exact .inr ⟨hl, (Host.Outcome.next.inj h).symm⟩

/-- A command is accepted, refused with the mark, or left waiting. -/
theorem submit_next {c : Command} {s t : State} (h : submit c s = .next t) :
    (s.portReady = true ∧ admission s.lifecycle c = .accept ∧
        t = { s with curCmd := some c, seqPc := .step 1 .issue }) ∨
      (s.portReady = true ∧ admission s.lifecycle c = .refuse ∧
        t = { s.emit (.result .refused) with refusalMark := true }) ∨
      ((s.portReady = false ∨ admission s.lifecycle c = .busy) ∧ t = s) := by
  unfold submit at h
  split at h
  · next hp =>
    split at h
    · next ha => exact .inl ⟨hp, ha, (Host.Outcome.next.inj h).symm⟩
    · next ha => exact .inr (.inl ⟨hp, ha, (Host.Outcome.next.inj h).symm⟩)
    · next ha => exact .inr (.inr ⟨.inr ha, (Host.Outcome.next.inj h).symm⟩)
  · next hp => exact .inr (.inr ⟨.inl (by simpa using hp), (Host.Outcome.next.inj h).symm⟩)

/-- The write frame a state issues: its sequencer stands at a W in phase Issue. -/
theorem issuedWrite_eq_some {s : State} {f : List Byte} (h : s.issuedWrite = some f) :
    ∃ k reg v, s.seqPc = .step k .issue ∧ s.currentOp = some (.write reg v) ∧
      f = encodeWrite s.cfg.slaveAddress reg v := by
  unfold State.issuedWrite at h
  split at h
  · next k reg v hpc hop => exact ⟨k, reg, v, hpc, hop, (Option.some.inj h).symm⟩
  · cases h

/-- The read frame a state issues: its sequencer stands at a read in phase Issue. -/
theorem issuedRead_eq_some {s : State} {f : List Byte} (h : s.issuedRead = some f) :
    ∃ k reg, s.seqPc = .step k .issue ∧ f = encodeRead s.cfg.slaveAddress reg ∧
      ((∃ v, s.currentOp = some (.readBack reg v)) ∨ ∃ kind, s.currentOp = some (.readStatus kind reg)) := by
  unfold State.issuedRead at h
  split at h
  · next k reg v hpc hop => exact ⟨k, reg, hpc, (Option.some.inj h).symm, .inl ⟨v, hop⟩⟩
  · next k kind reg hpc hop => exact ⟨k, reg, hpc, (Option.some.inj h).symm, .inr ⟨kind, hop⟩⟩
  · cases h

/-! ### The requester's move, by the micro-operation at SEQ_PC -/

theorem requesterMove_issue {s : State} {k : Nat} {op : MicroOp} (hpc : s.seqPc = .step k .issue)
    (hop : s.currentOp = some op) : requesterMove s = issueMove op s := by
  simp [requesterMove, hpc, hop]

theorem requesterMove_await {s : State} {k : Nat} {op : MicroOp} (hpc : s.seqPc = .step k .await)
    (hop : s.currentOp = some op) : requesterMove s = wakeMove op s := by
  simp [requesterMove, hpc, hop]

/-- A W in phase Issue sends its frame. -/
theorem requesterMove_write {s : State} {k : Nat} {reg : RegAddr} {v : Word} (hpc : s.seqPc = .step k .issue)
    (hop : s.currentOp = some (.write reg v)) :
    requesterMove s = .next (s.issueWrite (encodeWrite s.cfg.slaveAddress reg v)) := by
  rw [requesterMove_issue hpc hop]
  simp only [issueMove, exec_writeInstr]
  exact transmitWrite_of_issued (by simp [State.issuedWrite, hpc, hop, encodeWrite])

/-- A read in phase Issue makes step A. -/
theorem requesterMove_readBack {s : State} {k : Nat} {reg : RegAddr} {v : Word} (hpc : s.seqPc = .step k .issue)
    (hop : s.currentOp = some (.readBack reg v)) (hl : s.lock = .free) :
    requesterMove s = .next (s.issueRead (encodeRead s.cfg.slaveAddress reg)) := by
  rw [requesterMove_issue hpc hop]
  simp only [issueMove, exec_readInstr]
  exact transmitRead_of_issued (by simp [State.issuedRead, hpc, hop, encodeRead]) hl

theorem requesterMove_readStatus {s : State} {k : Nat} {kind : StatusKind} {reg : RegAddr} (hpc : s.seqPc = .step k .issue)
    (hop : s.currentOp = some (.readStatus kind reg)) (hl : s.lock = .free) :
    requesterMove s = .next (s.issueRead (encodeRead s.cfg.slaveAddress reg)) := by
  rw [requesterMove_issue hpc hop]
  simp only [issueMove, exec_readInstr]
  exact transmitRead_of_issued (by simp [State.issuedRead, hpc, hop, encodeRead]) hl

end Sys2Proof.Machine
end

