-- ==== Sys2Proof/Laws/PerInstr.lean ====
section
/-! SUPPORT. The per-instruction family FrameShape: what the bytes of each instruction's frame look like. -/

namespace Sys2Proof.Laws.FrameShape

open Sys2Proof Sys2Proof.Machine

/-- The frame of an instruction: on TX it starts with SYNC and is 8 bytes with bit 7 of byte 2 set, or 4 bytes with it clear
(R81, R82, R85); on RX it is 8 bytes starting with SYNC and MASTER_ADDRESS (R83); a command has no bytes (R87). Of a
well-formed frame the last byte is the CRC of the bytes before it (R113). -/
def Statement (i : Instr) : Prop :=
  match i.port with
  | .cmd => encode i = []
  | .tx =>
    (encode i).head? = some 0x05 ∧
      ((encode i).length = 8 ∧ ((encode i).getD 2 0).getLsbD 7 = true ∨
        (encode i).length = 4 ∧ ((encode i).getD 2 0).getLsbD 7 = false) ∧
      (WellFormed i → (encode i).getLast? = some (crcOf (encode i).dropLast))
  | .rx =>
    (encode i).length = 8 ∧ (encode i).head? = some 0x05 ∧ (encode i).getD 1 0 = 0xFF ∧
      (WellFormed i → (encode i).getLast? = some (crcOf (encode i).dropLast))

/-- The shape of a W frame, for any register. -/
theorem writeFrame_shape (slave : Byte) (reg : RegAddr) (d : Word) (crc : Byte) :
    (writeFrame slave reg d crc).head? = some 0x05 ∧ (writeFrame slave reg d crc).length = 8 ∧
      ((writeFrame slave reg d crc).getD 2 0).getLsbD 7 = true ∧
      (crc = writeCrc slave reg d → (writeFrame slave reg d crc).getLast? = some (crcOf (writeFrame slave reg d crc).dropLast)) := by
  refine ⟨rfl, rfl, ?_, fun h => by rw [h]; rfl⟩
  show (reg.setWidth 8 ||| Const.writeBit).getLsbD 7 = true
  rw [BitVec.getLsbD_or, show Const.writeBit.getLsbD 7 = true from rfl, Bool.or_true]

/-- The shape of an R frame, for any register. -/
theorem readFrame_shape (slave : Byte) (reg : RegAddr) (crc : Byte) :
    (readFrame slave reg crc).head? = some 0x05 ∧ (readFrame slave reg crc).length = 4 ∧
      ((readFrame slave reg crc).getD 2 0).getLsbD 7 = false ∧
      (crc = readCrc slave reg → (readFrame slave reg crc).getLast? = some (crcOf (readFrame slave reg crc).dropLast)) := by
  refine ⟨rfl, rfl, ?_, fun h => by rw [h]; rfl⟩
  show (reg.setWidth 8).getLsbD 7 = false
  rw [BitVec.getLsbD_setWidth, BitVec.getLsbD_of_ge reg 7 (Nat.le_refl 7), Bool.and_false]

/-- The shape of a Y frame, for any register byte. -/
theorem replyFrame_shape (regByte : Byte) (d : Word) (crc : Byte) (i : Instr) (he : encode i = replyFrame regByte d crc)
    (hw : WellFormed i → crc = replyCrc regByte d) :
    (encode i).length = 8 ∧ (encode i).head? = some 0x05 ∧ (encode i).getD 1 0 = 0xFF ∧
      (WellFormed i → (encode i).getLast? = some (crcOf (encode i).dropLast)) := by
  rw [he]
  exact ⟨rfl, rfl, rfl, fun h => by rw [hw h]; rfl⟩

/-- The TX shape of an instruction whose frame is a W frame. -/
theorem tx_of_write {i : Instr} (slave : Byte) (reg : RegAddr) (d : Word) (crc : Byte)
    (he : encode i = writeFrame slave reg d crc) (hw : WellFormed i → crc = writeCrc slave reg d) :
    (encode i).head? = some 0x05 ∧
      ((encode i).length = 8 ∧ ((encode i).getD 2 0).getLsbD 7 = true ∨
        (encode i).length = 4 ∧ ((encode i).getD 2 0).getLsbD 7 = false) ∧
      (WellFormed i → (encode i).getLast? = some (crcOf (encode i).dropLast)) := by
  obtain ⟨h1, h2, h3, h4⟩ := writeFrame_shape slave reg d crc
  rw [he]
  exact ⟨h1, .inl ⟨h2, h3⟩, fun h => h4 (hw h)⟩

/-- The TX shape of an instruction whose frame is an R frame. -/
theorem tx_of_read {i : Instr} (slave : Byte) (reg : RegAddr) (crc : Byte)
    (he : encode i = readFrame slave reg crc) (hw : WellFormed i → crc = readCrc slave reg) :
    (encode i).head? = some 0x05 ∧
      ((encode i).length = 8 ∧ ((encode i).getD 2 0).getLsbD 7 = true ∨
        (encode i).length = 4 ∧ ((encode i).getD 2 0).getLsbD 7 = false) ∧
      (WellFormed i → (encode i).getLast? = some (crcOf (encode i).dropLast)) := by
  obtain ⟨h1, h2, h3, h4⟩ := readFrame_shape slave reg crc
  rw [he]
  exact ⟨h1, .inr ⟨h2, h3⟩, fun h => h4 (hw h)⟩

theorem w (slave : Byte) (reg : RegAddr) (d : Word) (crc : Byte) : Statement (.w slave reg d crc) :=
  tx_of_write slave reg d crc rfl fun h => eq_of_beq ((Bool.and_eq_true_iff.mp h).1)

theorem r (slave : Byte) (reg : RegAddr) (crc : Byte) : Statement (.r slave reg crc) :=
  tx_of_read slave reg crc rfl fun h => eq_of_beq ((Bool.and_eq_true_iff.mp h).1)

theorem y (regByte : Byte) (d : Word) (crc : Byte) : Statement (.y regByte d crc) :=
  replyFrame_shape regByte d crc _ rfl fun h => eq_of_beq ((Bool.and_eq_true_iff.mp h).1)

theorem wGconf (slave : Byte) (d : Word) (crc : Byte) : Statement (.wGconf slave d crc) :=
  tx_of_write slave Const.addrGconf d crc rfl eq_of_beq

theorem wChopconf (slave : Byte) (d : Word) (crc : Byte) : Statement (.wChopconf slave d crc) :=
  tx_of_write slave Const.addrChopconf d crc rfl eq_of_beq

theorem wCoolconf (slave : Byte) (d : Word) (crc : Byte) : Statement (.wCoolconf slave d crc) :=
  tx_of_write slave Const.addrCoolconf d crc rfl eq_of_beq

theorem wIholdIrun (slave : Byte) (d : Word) (crc : Byte) : Statement (.wIholdIrun slave d crc) :=
  tx_of_write slave Const.addrIholdIrun d crc rfl eq_of_beq

theorem wTpowerdown (slave : Byte) (d : Word) (crc : Byte) : Statement (.wTpowerdown slave d crc) :=
  tx_of_write slave Const.addrTpowerdown d crc rfl eq_of_beq

theorem wTpwmthrs (slave : Byte) (d : Word) (crc : Byte) : Statement (.wTpwmthrs slave d crc) :=
  tx_of_write slave Const.addrTpwmthrs d crc rfl eq_of_beq

theorem wXtarget (slave : Byte) (d : Word) (crc : Byte) : Statement (.wXtarget slave d crc) :=
  tx_of_write slave Const.addrXtarget d crc rfl eq_of_beq

theorem wXactual (slave : Byte) (d : Word) (crc : Byte) : Statement (.wXactual slave d crc) :=
  tx_of_write slave Const.addrXactual d crc rfl eq_of_beq

theorem wVstart (slave : Byte) (d : Word) (crc : Byte) : Statement (.wVstart slave d crc) :=
  tx_of_write slave Const.addrVstart d crc rfl eq_of_beq

theorem wA1 (slave : Byte) (d : Word) (crc : Byte) : Statement (.wA1 slave d crc) :=
  tx_of_write slave Const.addrA1 d crc rfl eq_of_beq

theorem wV1 (slave : Byte) (d : Word) (crc : Byte) : Statement (.wV1 slave d crc) :=
  tx_of_write slave Const.addrV1 d crc rfl eq_of_beq

theorem wAmax (slave : Byte) (d : Word) (crc : Byte) : Statement (.wAmax slave d crc) :=
  tx_of_write slave Const.addrAmax d crc rfl eq_of_beq

theorem wVmax (slave : Byte) (d : Word) (crc : Byte) : Statement (.wVmax slave d crc) :=
  tx_of_write slave Const.addrVmax d crc rfl eq_of_beq

theorem wDmax (slave : Byte) (d : Word) (crc : Byte) : Statement (.wDmax slave d crc) :=
  tx_of_write slave Const.addrDmax d crc rfl eq_of_beq

theorem wD1 (slave : Byte) (d : Word) (crc : Byte) : Statement (.wD1 slave d crc) :=
  tx_of_write slave Const.addrD1 d crc rfl eq_of_beq

theorem wVstop (slave : Byte) (d : Word) (crc : Byte) : Statement (.wVstop slave d crc) :=
  tx_of_write slave Const.addrVstop d crc rfl eq_of_beq

theorem wRampmode (slave : Byte) (d : Word) (crc : Byte) : Statement (.wRampmode slave d crc) :=
  tx_of_write slave Const.addrRampmode d crc rfl eq_of_beq

theorem rGconf (slave : Byte) (crc : Byte) : Statement (.rGconf slave crc) :=
  tx_of_read slave Const.addrGconf crc rfl eq_of_beq

theorem rChopconf (slave : Byte) (crc : Byte) : Statement (.rChopconf slave crc) :=
  tx_of_read slave Const.addrChopconf crc rfl eq_of_beq

theorem rXactual (slave : Byte) (crc : Byte) : Statement (.rXactual slave crc) :=
  tx_of_read slave Const.addrXactual crc rfl eq_of_beq

theorem rRampmode (slave : Byte) (crc : Byte) : Statement (.rRampmode slave crc) :=
  tx_of_read slave Const.addrRampmode crc rfl eq_of_beq

theorem rVactual (slave : Byte) (crc : Byte) : Statement (.rVactual slave crc) :=
  tx_of_read slave Const.regVactual crc rfl eq_of_beq

theorem rDrvStatus (slave : Byte) (crc : Byte) : Statement (.rDrvStatus slave crc) :=
  tx_of_read slave Const.regDrvStatus crc rfl eq_of_beq

theorem yVactual (d : Word) (crc : Byte) : Statement (.yVactual d crc) :=
  replyFrame_shape (readRegByte Const.regVactual) d crc _ rfl eq_of_beq

theorem yDrvStatus (d : Word) (crc : Byte) : Statement (.yDrvStatus d crc) :=
  replyFrame_shape (readRegByte Const.regDrvStatus) d crc _ rfl eq_of_beq

theorem start (rps : Rat) : Statement (.start rps) :=
  rfl

theorem setVelocity (rps : Rat) : Statement (.setVelocity rps) :=
  rfl

theorem resetPositionCounter : Statement .resetPositionCounter :=
  rfl

theorem checkStatus : Statement .checkStatus :=
  rfl

theorem reset (rps : Rat) : Statement (.reset rps) :=
  rfl

theorem enableStallException (b : Bool) : Statement (.enableStallException b) :=
  rfl

theorem enableVelocityException (b : Bool) : Statement (.enableVelocityException b) :=
  rfl

theorem close : Statement .close :=
  rfl

end Sys2Proof.Laws.FrameShape
end

