-- ==== Sys2Proof/Tests/Slice0.lean ====
section
/-! SUPPORT. Tests. Expected values come from 95_test_vectors.md (the vector's name stands in the comment) or were computed
by hand from the rules, the CRC of the generic frames by the loop of rule R110 in another language. The witnesses at the end
show, for each obligation that has hypotheses, values that meet all of them. -/

namespace Sys2Proof.Tests

/-! Kernel evaluations queued side by side each hold memory of their own, so these are checked one after another. -/
set_option Elab.async false

open Sys2Proof Sys2Proof.Machine Sys2Proof.Safety

/-! ### Decoding words written out from the encodings, and encoding them back -/

/-- P1, step W1. -/
theorem test_decode_wGconf :
    decode .tx [0x05, 0x00, 0x80, 0x00, 0x00, 0x00, 0x04, 0x21] = .ok (.wGconf 0x00 0x00000004 0x21) ∧
      encode (.wGconf 0x00 0x00000004 0x21) = [0x05, 0x00, 0x80, 0x00, 0x00, 0x00, 0x04, 0x21] := by
  decide +kernel

/-- P1, step W2. -/
theorem test_decode_wChopconf :
    decode .tx [0x05, 0x00, 0xEC, 0x00, 0x01, 0x00, 0xC3, 0x2B] = .ok (.wChopconf 0x00 0x000100C3 0x2B) ∧
      encode (.wChopconf 0x00 0x000100C3 0x2B) = [0x05, 0x00, 0xEC, 0x00, 0x01, 0x00, 0xC3, 0x2B] := by
  decide +kernel

/-- P1, step W3. -/
theorem test_decode_wCoolconf :
    decode .tx [0x05, 0x00, 0xED, 0x00, 0x00, 0x00, 0x00, 0x65] = .ok (.wCoolconf 0x00 0x00000000 0x65) ∧
      encode (.wCoolconf 0x00 0x00000000 0x65) = [0x05, 0x00, 0xED, 0x00, 0x00, 0x00, 0x00, 0x65] := by
  decide +kernel

/-- P1, step W4. -/
theorem test_decode_wIholdIrun :
    decode .tx [0x05, 0x00, 0x90, 0x00, 0x06, 0x1F, 0x0A, 0xD0] = .ok (.wIholdIrun 0x00 0x00061F0A 0xD0) ∧
      encode (.wIholdIrun 0x00 0x00061F0A 0xD0) = [0x05, 0x00, 0x90, 0x00, 0x06, 0x1F, 0x0A, 0xD0] := by
  decide +kernel

/-- P1, step W5. -/
theorem test_decode_wTpowerdown :
    decode .tx [0x05, 0x00, 0x91, 0x00, 0x00, 0x00, 0x0A, 0x5B] = .ok (.wTpowerdown 0x00 0x0000000A 0x5B) ∧
      encode (.wTpowerdown 0x00 0x0000000A 0x5B) = [0x05, 0x00, 0x91, 0x00, 0x00, 0x00, 0x0A, 0x5B] := by
  decide +kernel

/-- P1, step W6. -/
theorem test_decode_wTpwmthrs :
    decode .tx [0x05, 0x00, 0x93, 0x00, 0x00, 0x01, 0xF4, 0x7E] = .ok (.wTpwmthrs 0x00 0x000001F4 0x7E) ∧
      encode (.wTpwmthrs 0x00 0x000001F4 0x7E) = [0x05, 0x00, 0x93, 0x00, 0x00, 0x01, 0xF4, 0x7E] := by
  decide +kernel

/-- P1, step WS. -/
theorem test_decode_wXtarget :
    decode .tx [0x05, 0x00, 0xAD, 0x7F, 0xFF, 0xFF, 0xFF, 0x42] = .ok (.wXtarget 0x00 0x7FFFFFFF 0x42) ∧
      encode (.wXtarget 0x00 0x7FFFFFFF 0x42) = [0x05, 0x00, 0xAD, 0x7F, 0xFF, 0xFF, 0xFF, 0x42] := by
  decide +kernel

/-- P1, step W8. -/
theorem test_decode_wXactual :
    decode .tx [0x05, 0x00, 0xA1, 0x00, 0x00, 0x00, 0x00, 0x3B] = .ok (.wXactual 0x00 0x00000000 0x3B) ∧
      encode (.wXactual 0x00 0x00000000 0x3B) = [0x05, 0x00, 0xA1, 0x00, 0x00, 0x00, 0x00, 0x3B] := by
  decide +kernel

/-- P1, step W9. -/
theorem test_decode_wVstart :
    decode .tx [0x05, 0x00, 0xA3, 0x00, 0x00, 0x00, 0x01, 0xF8] = .ok (.wVstart 0x00 0x00000001 0xF8) ∧
      encode (.wVstart 0x00 0x00000001 0xF8) = [0x05, 0x00, 0xA3, 0x00, 0x00, 0x00, 0x01, 0xF8] := by
  decide +kernel

/-- P1, step W10. -/
theorem test_decode_wA1 :
    decode .tx [0x05, 0x00, 0xA4, 0x00, 0x00, 0x03, 0xE8, 0x7F] = .ok (.wA1 0x00 0x000003E8 0x7F) ∧
      encode (.wA1 0x00 0x000003E8 0x7F) = [0x05, 0x00, 0xA4, 0x00, 0x00, 0x03, 0xE8, 0x7F] := by
  decide +kernel

/-- P1, step W11. -/
theorem test_decode_wV1 :
    decode .tx [0x05, 0x00, 0xA5, 0x00, 0x00, 0xC3, 0x50, 0xD1] = .ok (.wV1 0x00 0x0000C350 0xD1) ∧
      encode (.wV1 0x00 0x0000C350 0xD1) = [0x05, 0x00, 0xA5, 0x00, 0x00, 0xC3, 0x50, 0xD1] := by
  decide +kernel

/-- P1, step W12. -/
theorem test_decode_wAmax :
    decode .tx [0x05, 0x00, 0xA6, 0x00, 0x00, 0x01, 0xF4, 0xC5] = .ok (.wAmax 0x00 0x000001F4 0xC5) ∧
      encode (.wAmax 0x00 0x000001F4 0xC5) = [0x05, 0x00, 0xA6, 0x00, 0x00, 0x01, 0xF4, 0xC5] := by
  decide +kernel

/-- P1, step W13. -/
theorem test_decode_wVmax :
    decode .tx [0x05, 0x00, 0xA7, 0x00, 0x01, 0xF4, 0x00, 0x5B] = .ok (.wVmax 0x00 0x0001F400 0x5B) ∧
      encode (.wVmax 0x00 0x0001F400 0x5B) = [0x05, 0x00, 0xA7, 0x00, 0x01, 0xF4, 0x00, 0x5B] := by
  decide +kernel

/-- P1, step W14. -/
theorem test_decode_wDmax :
    decode .tx [0x05, 0x00, 0xA8, 0x00, 0x00, 0x02, 0xBC, 0x57] = .ok (.wDmax 0x00 0x000002BC 0x57) ∧
      encode (.wDmax 0x00 0x000002BC 0x57) = [0x05, 0x00, 0xA8, 0x00, 0x00, 0x02, 0xBC, 0x57] := by
  decide +kernel

/-- P1, step W15. -/
theorem test_decode_wD1 :
    decode .tx [0x05, 0x00, 0xAA, 0x00, 0x00, 0x05, 0x78, 0xAA] = .ok (.wD1 0x00 0x00000578 0xAA) ∧
      encode (.wD1 0x00 0x00000578 0xAA) = [0x05, 0x00, 0xAA, 0x00, 0x00, 0x05, 0x78, 0xAA] := by
  decide +kernel

/-- P1, step W16. -/
theorem test_decode_wVstop :
    decode .tx [0x05, 0x00, 0xAB, 0x00, 0x00, 0x00, 0x0A, 0xD0] = .ok (.wVstop 0x00 0x0000000A 0xD0) ∧
      encode (.wVstop 0x00 0x0000000A 0xD0) = [0x05, 0x00, 0xAB, 0x00, 0x00, 0x00, 0x0A, 0xD0] := by
  decide +kernel

/-- P1, step W17. -/
theorem test_decode_wRampmode :
    decode .tx [0x05, 0x00, 0xA0, 0x00, 0x00, 0x00, 0x00, 0x59] = .ok (.wRampmode 0x00 0x00000000 0x59) ∧
      encode (.wRampmode 0x00 0x00000000 0x59) = [0x05, 0x00, 0xA0, 0x00, 0x00, 0x00, 0x00, 0x59] := by
  decide +kernel

/-- P1, step RB1. -/
theorem test_decode_rGconf :
    decode .tx [0x05, 0x00, 0x00, 0xC0] = .ok (.rGconf 0x00 0xC0) ∧ encode (.rGconf 0x00 0xC0) = [0x05, 0x00, 0x00, 0xC0] := by
  decide +kernel

/-- P1, step RB2. -/
theorem test_decode_rChopconf :
    decode .tx [0x05, 0x00, 0x6C, 0xC3] = .ok (.rChopconf 0x00 0xC3) ∧ encode (.rChopconf 0x00 0xC3) = [0x05, 0x00, 0x6C, 0xC3] := by
  decide +kernel

/-- P1, step RB3. -/
theorem test_decode_rXactual :
    decode .tx [0x05, 0x00, 0x21, 0x27] = .ok (.rXactual 0x00 0x27) ∧ encode (.rXactual 0x00 0x27) = [0x05, 0x00, 0x21, 0x27] := by
  decide +kernel

/-- P1, step RB4. -/
theorem test_decode_rRampmode :
    decode .tx [0x05, 0x00, 0x20, 0x20] = .ok (.rRampmode 0x00 0x20) ∧ encode (.rRampmode 0x00 0x20) = [0x05, 0x00, 0x20, 0x20] := by
  decide +kernel

/-- V-ENC-20. -/
theorem test_decode_rVactual :
    decode .tx [0x05, 0x00, 0x22, 0x2E] = .ok (.rVactual 0x00 0x2E) ∧ encode (.rVactual 0x00 0x2E) = [0x05, 0x00, 0x22, 0x2E] := by
  decide +kernel

/-- V-ENC-21. -/
theorem test_decode_rDrvStatus :
    decode .tx [0x05, 0x00, 0x6F, 0xCA] = .ok (.rDrvStatus 0x00 0xCA) ∧ encode (.rDrvStatus 0x00 0xCA) = [0x05, 0x00, 0x6F, 0xCA] := by
  decide +kernel

/-- V-DEC-1. -/
theorem test_decode_yVactual :
    decode .rx [0x05, 0xFF, 0x22, 0x00, 0x01, 0xF4, 0x00, 0x8E] = .ok (.yVactual 0x0001F400 0x8E) ∧
      encode (.yVactual 0x0001F400 0x8E) = [0x05, 0xFF, 0x22, 0x00, 0x01, 0xF4, 0x00, 0x8E] := by
  decide +kernel

/-- V-DEC-18. -/
theorem test_decode_yDrvStatus :
    decode .rx [0x05, 0xFF, 0x6F, 0x00, 0x00, 0x00, 0x00, 0x99] = .ok (.yDrvStatus 0 0x99) ∧
      encode (.yDrvStatus 0 0x99) = [0x05, 0xFF, 0x6F, 0x00, 0x00, 0x00, 0x00, 0x99] := by
  decide +kernel

/-- V-DEC-16: bit 7 of the register byte is data. -/
theorem test_decode_y :
    decode .rx [0x05, 0xFF, 0xA2, 0x00, 0x01, 0xF4, 0x00, 0x19] = .ok (.y 0xA2 0x0001F400 0x19) ∧
      encode (.y 0xA2 0x0001F400 0x19) = [0x05, 0xFF, 0xA2, 0x00, 0x01, 0xF4, 0x00, 0x19] := by
  decide +kernel

/-- Register 0x41 has no row of its own: by the pattern of R81. -/
theorem test_decode_w :
    decode .tx [0x05, 0x01, 0xC1, 0xDE, 0xAD, 0xBE, 0xEF, 0x74] = .ok (.w 0x01 0x41 0xDEADBEEF 0x74) ∧
      encode (.w 0x01 0x41 0xDEADBEEF 0x74) = [0x05, 0x01, 0xC1, 0xDE, 0xAD, 0xBE, 0xEF, 0x74] := by
  decide +kernel

/-- Register 0x33 has no row of its own: by the pattern of R82. -/
theorem test_decode_r :
    decode .tx [0x05, 0x42, 0x33, 0x28] = .ok (.r 0x42 0x33 0x28) ∧
      encode (.r 0x42 0x33 0x28) = [0x05, 0x42, 0x33, 0x28] := by
  decide +kernel

/-- The opcode table's word numbering: byte 0 is most significant (R11). A word that is both a W and a Y frame reads as W. -/
theorem test_decodeTableWord :
    decodeTableWord 64 0x0500A70001F4005B = some (.wVmax 0x00 128000 0x5B) ∧
      decodeTableWord 32 0x0500222E = some (.rVactual 0x00 0x2E) ∧
      decodeTableWord 64 0x05FF220001F4008E = some (.yVactual 128000 0x8E) ∧
      decodeTableWord 64 0x05FFA70001F400F4 = some (.wVmax 0xFF 128000 0xF4) := by
  decide +kernel

/-- Strings that are no frame, each rejected by name. -/
theorem test_decode_rejects :
    decode .tx [] = .error .empty ∧ decode .rx [0x05] = .error .wrongLength ∧
      decode .tx [0x06, 0x00, 0x22, 0x2E] = .error .badSync ∧
      decode .rx [0x05, 0xFE, 0x22, 0x00, 0x01, 0xF4, 0x00, 0x8E] = .error .badMaster ∧
      decode .tx [0x05, 0x00, 0x27, 0x00, 0x01, 0xF4, 0x00, 0x5B] = .error .noWriteBit ∧
      decode .tx [0x05, 0x00, 0xA2, 0x2E] = .error .writeBitInRead ∧ decode .cmd [0x05] = .error .commandHasNoBits := by
  decide +kernel

/-! ### Well-formedness: one ill-formed term for each check -/

/-- A wrong CRC byte in a W, an R and a Y frame, generic and named. -/
theorem test_wf_rejects_bad_crc :
    ¬ WellFormed (.w 0x01 0x41 0xDEADBEEF 0x75) ∧ ¬ WellFormed (.r 0x42 0x33 0x29) ∧ ¬ WellFormed (.y 0xA2 0x0001F400 0x18) ∧
      ¬ WellFormed (.wVmax 0x00 128000 0x5A) ∧ ¬ WellFormed (.rVactual 0x00 0x2F) ∧ ¬ WellFormed (.yVactual 128000 0x8F) ∧
      ¬ WellFormed (.yDrvStatus 0 0x98) := by
  decide +kernel

/-- A generic row that names a register with a row of its own, its CRC right. -/
theorem test_wf_rejects_generic_named :
    ¬ WellFormed (.w 0x00 0x27 128000 0x5B) ∧ ¬ WellFormed (.r 0x00 0x22 0x2E) ∧ ¬ WellFormed (.y 0x22 128000 0x8E) := by
  decide +kernel

/-- The same frames in their own rows, and generic frames of other registers, are well formed. -/
theorem test_wf_accepts :
    WellFormed (.wVmax 0x00 128000 0x5B) ∧ WellFormed (.rVactual 0x00 0x2E) ∧ WellFormed (.yVactual 128000 0x8E) ∧
      WellFormed (.w 0x01 0x41 0xDEADBEEF 0x74) ∧ WellFormed (.r 0x42 0x33 0x28) ∧ WellFormed (.y 0xA2 0x0001F400 0x19) := by
  decide +kernel

/-- V-ENC-28: the encoders' domain (R123). -/
theorem test_encoder_domain :
    encodeWrite? 0x00 0xA7 128000 = none ∧ encodeRead? 0x00 0x80 = none ∧ encodeRead? 0x00 0x22 = some [0x05, 0x00, 0x22, 0x2E] := by
  decide +kernel

/-- R62: a configuration with two equal addresses, or with a parameter at 0x22, does not meet the requirements. -/
theorem test_config_wellFormed :
    Config.initial.wellFormed ∧ ¬ { Config.initial with regA1 := 0x25 }.wellFormed ∧
      ¬ { Config.initial with regA1 := 0x22 }.wellFormed := by
  decide +kernel

/-! ### CRC, replies, status, velocity -/

/-- V-CRC-2, 3, 5, 6, 8, 14. -/
theorem test_nextCrc :
    nextCrc 0x00 0x01 = 0x07 ∧ nextCrc 0x00 0x05 = 0x1B ∧ nextCrc 0x00 0x80 = 0x89 ∧ nextCrc 0x00 0xFF = 0xF3 ∧
      nextCrc 0x12 0x34 = 0xF2 ∧ nextCrc 0x00 0xAA = 0x5F := by
  decide +kernel

/-- V-CRC-9, 11, 12, 13. -/
theorem test_crcOf :
    crcOf [0x05, 0x00, 0x22] = 0x2E ∧ crcOf [0x05, 0x00, 0xA7, 0x00, 0x01, 0xF4, 0x00] = 0x5B ∧
      crcOf [0x31, 0x32, 0x33, 0x34, 0x35, 0x36, 0x37, 0x38, 0x39] = 0xF4 ∧
      crcOf [0x05, 0xFF, 0x22, 0x00, 0x01, 0xF4, 0x00, 0x8E] = 0x00 := by
  decide +kernel

/-- V-ENC-1, 3, 9, 11, 12, 27. -/
theorem test_encoders :
    encodeWrite 0x00 0x27 128000 = [0x05, 0x00, 0xA7, 0x00, 0x01, 0xF4, 0x00, 0x5B] ∧
      encodeWrite 0x00 0x27 256000 = [0x05, 0x00, 0xA7, 0x00, 0x03, 0xE8, 0x00, 0x26] ∧
      encodeWrite 0x00 0x2D 0x7FFFFFFF = [0x05, 0x00, 0xAD, 0x7F, 0xFF, 0xFF, 0xFF, 0x42] ∧
      encodeWrite 0x01 0x27 128000 = [0x05, 0x01, 0xA7, 0x00, 0x01, 0xF4, 0x00, 0x72] ∧
      encodeWrite 0xFF 0x27 128000 = [0x05, 0xFF, 0xA7, 0x00, 0x01, 0xF4, 0x00, 0xF4] ∧
      encodeRead 0xFF 0x6F = [0x05, 0xFF, 0x6F, 0x1D] := by
  decide +kernel

/-- V-DEC-1, 16, 17. -/
theorem test_decodeReply_ok :
    decodeReply [0x05, 0xFF, 0x22, 0x00, 0x01, 0xF4, 0x00, 0x8E] = .ok { regByte := 0x22, data := 128000 } ∧
      decodeReply [0x05, 0xFF, 0xA2, 0x00, 0x01, 0xF4, 0x00, 0x19] = .ok { regByte := 0xA2, data := 128000 } ∧
      decodeReply [0x05, 0xFF, 0x22, 0xFF, 0xFF, 0xFF, 0xFF, 0x7B] = .ok { regByte := 0x22, data := 0xFFFFFFFF } := by
  decide +kernel

/-- V-DEC-2, 4, 5, 6, 7, 8, 13, 14: the order of the checks. -/
theorem test_decodeReply_errors :
    decodeReply [] = .error .nullOrEmpty ∧ decodeReply [0x05, 0xFF, 0x22, 0x00, 0x01, 0xF4, 0x00] = .error .wrongLength ∧
      decodeReply [0x05, 0xFF, 0x22, 0x00, 0x01, 0xF4, 0x00, 0x8E, 0x00] = .error .wrongLength ∧
      decodeReply [0x04, 0xFF, 0x22, 0x00, 0x01, 0xF4, 0x00, 0x8E] = .error .badSyncOrAddress ∧
      decodeReply [0x05, 0xFE, 0x22, 0x00, 0x01, 0xF4, 0x00, 0x8E] = .error .badSyncOrAddress ∧
      decodeReply [0x05, 0xFF, 0x23, 0x00, 0x01, 0xF4, 0x00, 0x8E] = .error .crcMismatch ∧
      decodeReply [0x05, 0xFF, 0x22, 0x00, 0x01, 0xF4, 0x00, 0x8F] = .error .crcMismatch ∧
      decodeReply [0x06, 0xFF, 0x22, 0x00, 0x01, 0xF4, 0x00, 0x8E] = .error .badSyncOrAddress := by
  decide +kernel

/-- A clean status with only dataCorrupt cleared. -/
def decoded : MotorStatus :=
  { MotorStatus.fresh true with dataCorrupt := false }

/-- V-ST-2 to V-ST-6: one flag, and the stall qualifier. -/
theorem test_status_flags :
    decodeStatus .driverError 0x6F 0x20ABCDEF (MotorStatus.fresh true) = { decoded with openLoadA := true } ∧
      decodeStatus .driverError 0x6F 0x01000000 (MotorStatus.fresh true) = { decoded with stall := true } ∧
      decodeStatus .driverError 0x6F 0x01000100 (MotorStatus.fresh true) = decoded ∧
      decodeStatus .driverError 0x6F 0x01000001 (MotorStatus.fresh true) = decoded ∧
      decodeStatus .driverError 0x6F 0x01FF0000 (MotorStatus.fresh true) = { decoded with stall := true } := by
  decide +kernel

/-- V-ST-7 to V-ST-11, V-ST-13. -/
theorem test_status_bits :
    decodeStatus .driverError 0x6F 0x02000000 (MotorStatus.fresh true) = { decoded with overTemp := true } ∧
      decodeStatus .driverError 0x6F 0x04000000 (MotorStatus.fresh true) = { decoded with overTempPrewarning := true } ∧
      decodeStatus .driverError 0x6F 0x08000000 (MotorStatus.fresh true) = { decoded with shortToGroundA := true } ∧
      decodeStatus .driverError 0x6F 0x10000000 (MotorStatus.fresh true) = { decoded with shortToGroundB := true } ∧
      decodeStatus .driverError 0x6F 0x40000000 (MotorStatus.fresh true) = { decoded with openLoadB := true } ∧
      decodeStatus .driverError 0x6F 0x80000000 (MotorStatus.fresh true) = decoded := by
  decide +kernel

/-- V-ST-16, 17, 18, 19, 20. -/
theorem test_status_dispatch :
    decodeStatus .velocity 0x22 0xFFFFFFFF (MotorStatus.fresh true) = { decoded with actualVelocity := 4294967295 } ∧
      decodeStatus .velocity 0x6F 0x20000000 (MotorStatus.fresh true) = MotorStatus.fresh true ∧
      decodeStatus .driverError 0x22 0x20000000 (MotorStatus.fresh true) = MotorStatus.fresh true ∧
      decodeStatus .velocity 0x21 5 (MotorStatus.fresh true) = MotorStatus.fresh true ∧
      decodeStatus .driverError 0x6F 0 { MotorStatus.fresh true with stall := true, actualVelocity := 7 } =
        { decoded with actualVelocity := 7 } := by
  decide +kernel

/-- V-SEQ-9, and the corner cases of R185. -/
theorem test_vreg :
    vreg (1 / 100000) = 0 ∧ vreg 0 = 0 ∧ vreg 5 = 256000 ∧ vreg (1 / 3) = 17066 ∧ vreg (5 / 4) = 64000 := by
  decide +kernel

/-- V-SEQ-1, 2, 4, 5, 6, 7. -/
theorem test_validRps :
    ¬ validRps (-1) ∧ ¬ validRps (51 / 10) ∧ validRps 0 ∧ validRps 5 ∧ ¬ validRps (5000001 / 1000000) ∧
      ¬ validRps (-1 / 1000000) := by
  decide +kernel

/-- V-SEQ-10 to V-SEQ-18. -/
theorem test_inBand :
    ¬ inBand 121599 (5 / 2) ∧ inBand 121600 (5 / 2) ∧ inBand 140800 (5 / 2) ∧ ¬ inBand 140801 (5 / 2) ∧ inBand 0 0 ∧
      ¬ inBand 1 0 ∧ ¬ inBand 16213 (1 / 3) ∧ inBand 16214 (1 / 3) ∧ inBand 18773 (1 / 3) ∧ ¬ inBand 18774 (1 / 3) ∧
      ¬ inBand 4294967295 5 := by
  decide +kernel

/-- V-SEQ-22 to V-SEQ-26, 30: the order of EVAL, on the decoded driver-status words. -/
theorem test_evalStatus :
    evalStatus (decodeDriver 0x01000000 decoded) true false 0 = some .stall ∧
      evalStatus (decodeDriver 0x01000000 decoded) false false 0 = none ∧
      evalStatus (decodeDriver 0x03000000 decoded) true false 0 = some .stall ∧
      evalStatus (decodeDriver 0x03000000 decoded) false false 0 = some .overTemperature ∧
      evalStatus (decodeDriver 0x06000000 decoded) false false 0 = some .overTemperaturePrewarning ∧
      evalStatus (decodeDriver 0x60000000 decoded) false false 0 = some .openLoadA ∧
      evalStatus (decodeDriver 0x18000000 decoded) false false 0 = some .shortToGroundA ∧
      evalStatus (decodeDriver 0x40000000 decoded) false true (5 / 2) = some .openLoadB ∧
      evalStatus decoded false true (5 / 2) = some .velocityOutOfBand := by
  decide +kernel

/-! ### Small states -/

/-- The test configuration TC0 of 95_test_vectors.md. -/
def tc0 : Config :=
  { Config.initial with
    slaveAddress := 0x00, cfgGconf := 0x00000004, cfgChopconf := 0x000100C3, cfgIholdIrun := 0x00061F0A
    cfgTpowerdown := 0x0000000A, cfgTpwmthrs := 0x000001F4, cfgVstart := 0x00000001, cfgA1 := 1000, cfgV1 := 50000
    cfgAmax := 500, cfgDmax := 700, cfgD1 := 1400, cfgVstop := 10, unreachableTarget := 0x7FFFFFFF
    messages := default }

/-- After block reset, with TC0. -/
def fresh0 : State :=
  State.resetWith tc0

/-- Running at 2.5 rps, as 95_test_vectors.md's sequencer vectors start. -/
def running : State :=
  { fresh0 with lifecycle := .running, desiredRps := 5 / 2, channelOpen := true }

/-- A command in progress, at a step in phase Issue. -/
def atStep (c : Command) (k : Nat) (s : State) : State :=
  { s with curCmd := some c, seqPc := .step k .issue }

/-- A write sent at a step, its settle not ended. -/
def settling (c : Command) (k : Nat) (s : State) : State :=
  { s with curCmd := some c, seqPc := .step k .settle, settleTimer := .armed }

/-- A read sent at a step, and this buffer delivered. -/
def answered (c : Command) (k : Nat) (buf : List Byte) (s : State) : State :=
  { s with
    curCmd := some c, seqPc := .step k .await, waiting := true, wake := .signalled, readTimer := .armed
    pendingReply := .full buf }

/-- A read sent at a step, and its wait expired with no delivery. -/
def expired (c : Command) (k : Nat) (s : State) : State :=
  { s with curCmd := some c, seqPc := .step k .await, waiting := true, wake := .timedOut }

/-- A read sent at a step, and nothing yet. -/
def awaiting (c : Command) (k : Nat) (s : State) : State :=
  { s with curCmd := some c, seqPc := .step k .await, waiting := true, readTimer := .armed }

/-- The next state, if there is one. -/
def after : Host.Outcome State Fault Refusal → Option State
  | .next s => some s
  | .fault _ | .refused _ => none

/-- The outputs of one move of an agent from a state without outputs. -/
def outputsOf (a : Agent) (s : State) : Option (List Output) :=
  (after (agentMove a s)).map State.outputs

/-- Block reset under a configuration with other values of the parameters D20 and D22 (R9, R291). -/
theorem test_resetWith_parameters :
    let s := State.resetWith { tc0 with stallExcReset := true, velExcReset := true, dataCorruptInit := false }
    s.stallExcEn = true ∧ s.velExcEn = true ∧ s.statusWork.dataCorrupt = false ∧ s.lifecycle = .uninitialized := by
  decide +kernel

/-- An error value: Timeout's message is the source's (E17), OpenFailed's the configuration's. -/
theorem test_errorValue :
    errorValue tc0 .timeout = { errorClass := .communicationError, code := 0x12, message := "no reply answer" } ∧
      (errorValue { tc0 with messages := { tc0.messages with openFailed := "port busy" } } .openFailed).message =
        "port busy" := by
  decide +kernel

/-! ### Single steps -/

/-- V-SEQ-3: the frame of `setVelocity 2.5`. -/
theorem test_setVelocity_frame :
    outputsOf .requester (atStep (.setVelocity (5 / 2)) 3 running) =
      some [.tx [0x05, 0x00, 0xA7, 0x00, 0x01, 0xF4, 0x00, 0x5B]] := by
  decide +kernel

/-- V-SEQ-1: `setVelocity -1` ends in InvalidVelocity and leaves STATE and DESIRED_RPS. -/
theorem test_setVelocity_invalid :
    after (agentMove .requester (atStep (.setVelocity (-1)) 1 running)) =
      some { running with outputs := [.result (.err .invalidVelocity)] } := by
  decide +kernel

/-- V-SEQ-34: the frame of `resetPositionCounter`. -/
theorem test_resetPositionCounter_frame :
    outputsOf .requester (atStep .resetPositionCounter 1 running) =
      some [.tx [0x05, 0x00, 0xA1, 0x00, 0x00, 0x00, 0x00, 0x3B]] := by
  decide +kernel

/-- P1, step W3 of `start`. -/
theorem test_start_w3 :
    outputsOf .requester (atStep (.start (5 / 2)) 7 fresh0) =
      some [.tx [0x05, 0x00, 0xED, 0x00, 0x00, 0x00, 0x00, 0x65]] := by
  decide +kernel

/-- P5: `start` whose open is answered PortUnavailable. -/
theorem test_start_portUnavailable :
    after (agentMove .requester (atStep (.start (5 / 2)) 2 { fresh0 with openAnswers := [.portUnavailable] })) =
      some { fresh0 with outputs := [.linkOpen .portUnavailable, .result (.err .portUnavailable)] } := by
  decide +kernel

/-- P1-F: RB2 answered with an altered word. -/
theorem test_readback_mismatch :
    outputsOf .requester (answered (.start (5 / 2)) 23 [0x05, 0xFF, 0x6C, 0x00, 0x01, 0x00, 0xC4, 0x06] running) =
      some [.result (.err .configReadbackFailed)] := by
  decide +kernel

/-- P3: WS of `reset 2.5`. -/
theorem test_reset_ws :
    outputsOf .requester (atStep (.reset (5 / 2)) 26 running) =
      some [.tx [0x05, 0x00, 0xAD, 0x7F, 0xFF, 0xFF, 0xFF, 0x42]] := by
  decide +kernel

/-- P2, line 3: the first request of `checkStatus`. -/
theorem test_checkStatus_request :
    after (agentMove .requester (atStep .checkStatus 2 { running with pendingReply := .full [0x05] })) =
      some { awaiting .checkStatus 2 running with outputs := [.tx [0x05, 0x00, 0x22, 0x2E]] } := by
  decide +kernel

/-- P4, line 3: the second read of `checkStatus` times out, STATE stays Running. -/
theorem test_checkStatus_timeout :
    after (agentMove .requester (expired .checkStatus 3 running)) =
      some { running with wake := .timedOut, outputs := [.result (.err .timeout)] } := by
  decide +kernel

/-- P3, line 11: `close -> true`. -/
theorem test_close :
    (after (agentMove .requester (atStep .close 1 { running with closeAnswers := [true] }))).map
        (fun t => (t.lifecycle, t.channelOpen, t.closeResult, t.outputs)) =
      some (.closed, false, true, [.linkClose true]) := by
  decide +kernel

/-- V-CMD-4 and V-CMD-5: the flag each enable command writes. -/
theorem test_enable_flags :
    after (agentMove .requester (atStep (.enableStallException true) 1 fresh0)) =
        some (atStep (.enableStallException true) 2 { fresh0 with stallExcEn := true }) ∧
      after (agentMove .requester (atStep (.enableVelocityException true) 1 { fresh0 with lifecycle := .closed })) =
        some (atStep (.enableVelocityException true) 2 { fresh0 with lifecycle := .closed, velExcEn := true }) := by
  decide +kernel

/-- V-CMD-1, V-CMD-2, V-CMD-3, V-CMD-6: refusals leave only the mark and the result. -/
theorem test_refused :
    after (exec (.setVelocity 1) fresh0) = some { fresh0 with refusalMark := true, outputs := [.result .refused] } ∧
      after (exec (.start (5 / 2)) running) = some { running with refusalMark := true, outputs := [.result .refused] } ∧
      (after (exec .checkStatus { fresh0 with lifecycle := .closed })).map State.refusalMark = some true ∧
      after (exec .close fresh0) = some { fresh0 with refusalMark := true, outputs := [.result .refused] } := by
  decide +kernel

/-- The delivery of V-RD-2 wakes the requester, and V-RD-7's does not. -/
theorem test_delivery :
    after (exec (.yVactual 128000 0x8E) (awaiting .checkStatus 2 running)) =
        some (answered .checkStatus 2 [0x05, 0xFF, 0x22, 0x00, 0x01, 0xF4, 0x00, 0x8E] running) ∧
      (after (exec (.yVactual 128000 0x8E) running)).map State.wake = some .none := by
  decide +kernel

/-- V-SEQ-32: a status reply with a bad CRC. -/
theorem test_checkStatus_crc :
    outputsOf .requester (answered .checkStatus 3 [0x05, 0xFF, 0x6F, 0x00, 0x00, 0x00, 0x00, 0x98] running) =
      some [.result (.err .crcMismatch)] := by
  decide +kernel

/-- A frame the sequencer does not issue has no meaning: W.VMAX while idle. -/
theorem test_frame_not_issued :
    exec (.wVmax 0x00 128000 0x5B) running = .refused .frameNotIssued := by
  rfl

/-! ### Witnesses for the hypotheses of the obligations -/

/-- DecodeEncode and EncodeDecode. -/
theorem witness_decode_encode :
    (∀ i ∈ [Instr.wVmax 0x00 128000 0x5B, .w 0x01 0x41 0xDEADBEEF 0x74, .rVactual 0x00 0x2E, .r 0x42 0x33 0x28,
        .yVactual 128000 0x8E, .y 0xA2 0x0001F400 0x19], WellFormed i ∧ i.port ≠ .cmd) ∧
      decode .tx [0x05, 0x00, 0x22, 0x2E] = .ok (.rVactual 0x00 0x2E) ∧
      decode .rx [0x05, 0xFF, 0x22, 0x00, 0x01, 0xF4, 0x00, 0x8F] = .ok (.yVactual 128000 0x8F) := by
  decide +kernel

/-- CrcDetectsBursts: a burst inside one byte, and the bursts at both ends of the range of `k`. -/
theorem witness_crc_bursts :
    crcOf ([0x05] ++ [0x00 ^^^ 0x10] ++ [0x22]) ≠ crcOf ([0x05] ++ [0x00] ++ [0x22]) ∧
      ((0xFF : Byte).setWidth 16 <<< 0).extractLsb' 8 8 = (0x00 : Byte) ∧
      ((0xFF : Byte).setWidth 16 <<< 8).extractLsb' 8 8 = (0xFF : Byte) ∧
      ((0xFF : Byte).setWidth 16 <<< 4).extractLsb' 0 8 = (0xF0 : Byte) := by
  decide +kernel

/-- ReplyRoundTripAndMutation: a different byte at each of the 8 places. -/
theorem witness_reply_mutation :
    ∀ n < 8, (0x77 : Byte) ≠ (mkReply 0x22 128000).getD n 0 := by
  decide +kernel

/-- A register and a form for each of the 18 W rows. -/
def writeWitnesses : List (RegAddr × (Byte → Instr)) :=
  [(0x41, .w 0x09 0x41 7), (0x00, .wGconf 0x09 7), (0x6C, .wChopconf 0x09 7), (0x6D, .wCoolconf 0x09 7),
   (0x10, .wIholdIrun 0x09 7), (0x11, .wTpowerdown 0x09 7), (0x13, .wTpwmthrs 0x09 7), (0x2D, .wXtarget 0x09 7),
   (0x21, .wXactual 0x09 7), (0x23, .wVstart 0x09 7), (0x24, .wA1 0x09 7), (0x25, .wV1 0x09 7), (0x26, .wAmax 0x09 7),
   (0x27, .wVmax 0x09 7), (0x28, .wDmax 0x09 7), (0x2A, .wD1 0x09 7), (0x2B, .wVstop 0x09 7), (0x20, .wRampmode 0x09 7)]

/-- WriteFramesTransmit: for every form, a state whose W it is. -/
theorem witness_write_frames :
    ∀ p ∈ writeWitnesses,
      p.2 (writeCrc 0x09 p.1 7) ∈ writeForms 0x09 p.1 7 (writeCrc 0x09 p.1 7) ∧
        (placeWrite 0x09 p.1 7 running).seqPc = .step 5 .issue ∧
        (placeWrite 0x09 p.1 7 running).currentOp = some (.write p.1 7) ∧
        encode (p.2 (writeCrc 0x09 p.1 7)) = encodeWrite (placeWrite 0x09 p.1 7 running).cfg.slaveAddress p.1 7 := by
  decide +kernel

/-- SettleEndCompletesTheWrite: each clause. -/
theorem witness_settle :
    (settling (.setVelocity 1) 3 running).seqPc = .step 3 .settle ∧
      (settling (.setVelocity 1) 3 running).settleTimer = .armed ∧ running.settleTimer = .disarmed := by
  decide +kernel

/-- FramesNotIssuedAreRefused: at a W, a frame of another word, and any R frame; when idle, any frame. -/
theorem witness_frames_not_issued :
    (placeWrite 0x00 0x27 7 running).currentOp = some (.write 0x27 7) ∧
      encode (.wVmax 0x00 8 0x00) ≠ encodeWrite 0x00 0x27 7 ∧ running.seqPc = .idle ∧ running.currentOp = none := by
  decide +kernel

/-- A register and a form for each of the 7 R rows. -/
def readWitnesses : List (RegAddr × (Byte → Instr)) :=
  [(0x33, .r 0x09 0x33), (0x00, .rGconf 0x09), (0x6C, .rChopconf 0x09), (0x21, .rXactual 0x09), (0x20, .rRampmode 0x09),
   (0x22, .rVactual 0x09), (0x6F, .rDrvStatus 0x09)]

/-- ReadFramesStartTheRead: for every form, a state whose read it is, LOCK Free. -/
theorem witness_read_frames :
    ∀ p ∈ readWitnesses,
      p.2 (readCrc 0x09 p.1) ∈ readForms 0x09 p.1 (readCrc 0x09 p.1) ∧
        (placeRead 0x09 p.1 running).seqPc = .step 22 .issue ∧
        (placeRead 0x09 p.1 running).currentOp = some (.readBack p.1 4) ∧
        encode (p.2 (readCrc 0x09 p.1)) = encodeRead (placeRead 0x09 p.1 running).cfg.slaveAddress p.1 ∧
        (placeRead 0x09 p.1 running).lock = .free := by
  decide +kernel

/-- ReadFramesStartTheRead: the other read, RS; HeldLockDelaysFrames: the same with LOCK held. -/
theorem witness_status_read_frames :
    (atStep .checkStatus 2 running).currentOp = some (.readStatus .velocity 0x22) ∧
      encode (.rVactual 0x00 0x2E) = encodeRead (atStep .checkStatus 2 running).cfg.slaveAddress 0x22 ∧
      (atStep .checkStatus 2 { running with lock := .heldByDelivery }).lock ≠ .free ∧
      (atStep .checkStatus 2 { running with lock := .heldByDelivery }).currentOp = some (.readStatus .velocity 0x22) := by
  decide +kernel

/-- ReplyFramesAreDeposited (any CRC byte) and AnyBufferIsDeposited (no frame at all). -/
theorem witness_deliveries :
    Instr.yDrvStatus 0 0x00 ∈ replyForms 0x6F 0 0x00 ∧ (awaiting .checkStatus 3 running).lock = .free ∧
      { running with rxIn := [[]] }.rxIn = [] :: [] ∧ { running with rxIn := [[]] }.lock = .free := by
  decide +kernel

/-- ReadWaitExpires: each clause, and each way of the second. -/
theorem witness_read_wait :
    ((awaiting .checkStatus 2 running).waiting = true ∧ (awaiting .checkStatus 2 running).wake = .none ∧
        (awaiting .checkStatus 2 running).readTimer = .armed) ∧
      running.waiting = false ∧ (answered .checkStatus 2 [] running).wake ≠ .none ∧
      (expired .checkStatus 2 running).readTimer = .disarmed := by
  decide +kernel

/-- ReadBackEnds: Timeout, a decode error, the expected word under another register byte, another word. -/
theorem witness_read_back :
    (∀ s ∈ [expired (.start 1) 22 running, answered (.reset 1) 22 [] running,
        answered (.start 1) 22 (mkReply 0x55 4) running, answered (.start 1) 22 (mkReply 0x00 5) running],
      s.seqPc = .step 22 .await ∧ s.currentOp = some (.readBack 0x00 4) ∧ s.waiting = true ∧ s.wake ≠ .none ∧
        s.lock = .free) ∧
      (expired (.start 1) 22 running).pendingReply = .empty ∧ decodeReply [] = .error .nullOrEmpty ∧
      decodeReply (mkReply 0x55 4) = .ok { regByte := 0x55, data := 4 } ∧
      decodeReply (mkReply 0x00 5) = .ok { regByte := 0x00, data := 5 } := by
  decide +kernel

/-- StatusReadEnds: Timeout, a decode error, a valid reply. -/
theorem witness_status_read :
    (∀ s ∈ [expired .checkStatus 3 running, answered .checkStatus 3 [0x05] running,
        answered .checkStatus 3 (mkReply 0x6F 0) running],
      s.seqPc = .step 3 .await ∧ s.currentOp = some (.readStatus .driverError 0x6F) ∧ s.waiting = true ∧
        s.wake ≠ .none ∧ s.lock = .free) ∧
      (expired .checkStatus 3 running).pendingReply = .empty ∧ decodeReply [0x05] = .error .wrongLength ∧
      decodeReply (mkReply 0x6F 0) = .ok { regByte := 0x6F, data := 0 } := by
  decide +kernel

/-- RequesterWaits: in a settle, and in a wait that nothing has ended. -/
theorem witness_requester_waits :
    (settling (.setVelocity 1) 3 running).currentOp = some (.write 0x27 51200) ∧
      (awaiting .checkStatus 2 running).currentOp = some (.readStatus .velocity 0x22) ∧
      (awaiting .checkStatus 2 running).seqPc = .step 2 .await ∧ (awaiting .checkStatus 2 running).wake = .none ∧
      (awaiting (.start 1) 22 running).currentOp = some (.readBack 0x00 4) := by
  decide +kernel

/-- ValidateMove: both bounds, and values beyond each. -/
theorem witness_validate :
    (∀ rps ∈ [(0 : Rat), 5, -1, 51 / 10],
      (atStep (.setVelocity rps) 1 running).currentOp = some (.validate rps) ∧
        (atStep (.setVelocity rps) 1 running).seqPc = .step 1 .issue) ∧
      (0 : Rat) ≤ 0 ∧ (0 : Rat) ≤ 5 ∧ (5 : Rat) ≤ 5 ∧ (-1 : Rat) < 0 ∧ (5 : Rat) < 51 / 10 := by
  decide +kernel

/-- OpenMove: each answer, and none. -/
theorem witness_open :
    ∀ answers ∈ [[], [OpenAnswer.ok], [.portUnavailable], [.openFailed]],
      (atStep (.start 1) 2 { fresh0 with openAnswers := answers }).currentOp = some .openLink ∧
        (atStep (.start 1) 2 { fresh0 with openAnswers := answers }).seqPc = .step 2 .issue ∧
        (atStep (.start 1) 2 { fresh0 with openAnswers := answers }).openAnswers = answers := by
  decide +kernel

/-- RegisterMoves: a state for each micro-operation. -/
theorem witness_register_moves :
    (atStep (.start 1) 3 fresh0).seqPc = .step 3 .issue ∧
      (atStep (.start 1) 3 fresh0).currentOp = some (.setState .configuring) ∧
      (atStep (.start 1) 4 fresh0).currentOp = some (.setRps 1) ∧
      (atStep (.reset 1) 2 running).currentOp = some .powerCycle ∧ (atStep .checkStatus 1 running).currentOp = some .fresh ∧
      (atStep (.enableStallException true) 1 fresh0).currentOp = some (.setFlag .stall true) ∧
      (atStep (.enableVelocityException true) 1 fresh0).currentOp = some (.setFlag .velocity true) := by
  decide +kernel

/-- EvalMove, CloseAndRetMoves: a state for each. -/
theorem witness_eval_close_ret :
    (atStep .checkStatus 4 running).currentOp = some .eval ∧ (atStep .close 1 running).currentOp = some .closeLink ∧
      { running with closeAnswers := [false] }.closeAnswers = false :: [] ∧ (atStep .close 1 running).seqPc = .step 1 .issue ∧
      (atStep .checkStatus 4 running).seqPc = .step 4 .issue ∧
      (atStep .resetPositionCounter 2 running).currentOp = some (.ret .unit) ∧
      (atStep .checkStatus 5 running).currentOp = some (.ret .statusWork) ∧
      (atStep .close 2 running).currentOp = some (.ret .closeResult) := by
  decide +kernel

/-- CommandsAccepted, CommandsRefused, CommandPortBusy: a state for each row of the legality table. -/
theorem witness_command_port :
    fresh0.curCmd = none ∧ fresh0.lifecycle = .uninitialized ∧ running.curCmd = none ∧ running.lifecycle = .running ∧
      { running with lifecycle := .faulted }.lifecycle = .faulted ∧ { fresh0 with lifecycle := .closed }.curCmd = none ∧
      (atStep .close 1 running).curCmd ≠ none ∧ { running with lifecycle := .configuring }.lifecycle = .configuring := by
  decide +kernel

/-- The whole commands: a caller's offer and a schedule. -/
def offering (c : Command) (turns : List Agent) (s : State) : State :=
  { s with cmdIn := [c], schedule := turns }

/-- SetVelocityRuns, both clauses. -/
theorem witness_setVelocity_runs :
    (offering (.setVelocity 5) [.caller, .requester, .requester, .requester, .settleTimer, .requester] running).curCmd = none ∧
      (offering (.setVelocity 5) [.caller, .requester, .requester, .requester, .settleTimer, .requester] running).lifecycle =
        .running ∧
      (offering (.setVelocity 5) [.caller, .requester, .requester, .requester, .settleTimer, .requester] running).cmdIn =
        .setVelocity 5 :: [] ∧
      (offering (.setVelocity 5) [.caller, .requester, .requester, .requester, .settleTimer, .requester] running).schedule =
        [.caller, .requester, .requester, .requester, .settleTimer, .requester] ++ [] ∧ (0 : Rat) ≤ 5 ∧ (5 : Rat) ≤ 5 ∧
      (offering (.setVelocity 6) [.caller, .requester] running).cmdIn = .setVelocity 6 :: [] ∧
      (offering (.setVelocity 6) [.caller, .requester] running).schedule = [.caller, .requester] ++ [] ∧ (5 : Rat) < 6 := by
  decide +kernel

/-- ResetPositionCounterRuns. -/
theorem witness_resetPositionCounter_runs :
    let s := offering .resetPositionCounter [.caller, .requester, .settleTimer, .requester] running
    s.curCmd = none ∧ s.lifecycle = .running ∧ s.cmdIn = .resetPositionCounter :: [] ∧
      s.schedule = [.caller, .requester, .settleTimer, .requester] ++ [] := by
  decide +kernel

/-- EnableCommandsRun, both clauses. -/
theorem witness_enable_runs :
    (∀ s ∈ [offering (.enableStallException true) [.caller, .requester, .requester] fresh0,
        offering (.enableVelocityException true) [.caller, .requester, .requester] fresh0],
      s.curCmd = none ∧ s.lifecycle ≠ .configuring ∧ s.schedule = [.caller, .requester, .requester] ++ []) ∧
      (offering (.enableStallException true) [.caller, .requester, .requester] fresh0).cmdIn =
        .enableStallException true :: [] ∧
      (offering (.enableVelocityException true) [.caller, .requester, .requester] fresh0).cmdIn =
        .enableVelocityException true :: [] := by
  decide +kernel

/-- CloseRuns, from Faulted. -/
theorem witness_close_runs :
    let s := offering .close [.caller, .requester, .requester] { running with lifecycle := .faulted, closeAnswers := [true] }
    s.curCmd = none ∧ s.lifecycle = .faulted ∧ s.cmdIn = .close :: [] ∧ s.closeAnswers = true :: [] ∧
      s.schedule = [.caller, .requester, .requester] ++ [] := by
  decide +kernel

/-- A `checkStatus` with both replies clean. -/
def checking : State :=
  { offering .checkStatus ([.caller, .requester] ++ readTurns ++ readTurns ++ [.requester, .requester]) running with
    rxIn := [mkReply 0x22 128000, mkReply 0x6F 0], velExcEn := true }

/-- CheckStatusRuns. -/
theorem witness_checkStatus_runs :
    checking.curCmd = none ∧ checking.lifecycle = .running ∧ checking.lock = .free ∧ checking.cmdIn = .checkStatus :: [] ∧
      checking.rxIn = mkReply 0x22 128000 :: mkReply 0x6F 0 :: [] ∧
      checking.schedule = [.caller, .requester] ++ readTurns ++ readTurns ++ [.requester, .requester] ++ [] ∧
      evalStatus (decodeStatus .driverError 0x6F 0 (decodeStatus .velocity 0x22 128000
        (MotorStatus.fresh checking.cfg.dataCorruptInit))) checking.stallExcEn checking.velExcEn checking.desiredRps = none := by
  decide +kernel

/-- CheckStatusTimesOut. -/
theorem witness_checkStatus_times_out :
    let s := offering .checkStatus [.caller, .requester, .requester, .readTimer, .requester] running
    s.curCmd = none ∧ s.lifecycle = .running ∧ s.lock = .free ∧ s.cmdIn = .checkStatus :: [] ∧
      s.schedule = [.caller, .requester, .requester, .readTimer, .requester] ++ [] := by
  decide +kernel

/-- The echoes of P1. -/
def echoes : List (List Byte) :=
  [mkReply 0x00 4, mkReply 0x6C 0x000100C3, mkReply 0x21 0, mkReply 0x20 0]

/-- P1's `start 2.5`. -/
def starting : State :=
  { offering (.start (5 / 2)) ([.caller, .requester, .requester] ++ configTurns ++ [.requester]) fresh0 with
    rxIn := echoes, openAnswers := [.ok] }

/-- P3's `reset 2.5`. -/
def resetting : State :=
  { offering (.reset (5 / 2)) ([.caller, .requester, .requester] ++ configTurns ++ [.requester]) running with
    lifecycle := .faulted, rxIn := echoes }

/-- StartConfiguresAndRuns. -/
theorem witness_start :
    starting.curCmd = none ∧ starting.lifecycle = .uninitialized ∧ starting.lock = .free ∧ (0 : Rat) ≤ 5 / 2 ∧
      (5 / 2 : Rat) ≤ 5 ∧ starting.cmdIn = .start (5 / 2) :: [] ∧ starting.openAnswers = .ok :: [] ∧
      starting.rxIn = [mkReply 0x00 starting.cfg.cfgGconf, mkReply 0x6C starting.cfg.cfgChopconf, mkReply 0x21 0,
        mkReply 0x20 starting.cfg.rampmodePosition] ++ [] ∧
      starting.schedule = [.caller, .requester, .requester] ++ configTurns ++ [.requester] ++ [] := by
  decide +kernel

/-- ResetReconfigures, from Faulted. -/
theorem witness_reset :
    resetting.curCmd = none ∧ resetting.lifecycle = .faulted ∧ resetting.lock = .free ∧ (0 : Rat) ≤ 5 / 2 ∧
      (5 / 2 : Rat) ≤ 5 ∧ resetting.cmdIn = .reset (5 / 2) :: [] ∧
      resetting.rxIn = [mkReply 0x00 resetting.cfg.cfgGconf, mkReply 0x6C resetting.cfg.cfgChopconf, mkReply 0x21 0,
        mkReply 0x20 resetting.cfg.rampmodePosition] ++ [] ∧
      resetting.schedule = [.caller, .requester, .requester] ++ configTurns ++ [.requester] ++ [] := by
  decide +kernel

/-- StepRunsDecodedInstruction: each clause. -/
theorem witness_step :
    (nextAgent (placeWrite 0x00 0x27 7 running) = .requester ∧
        (placeWrite 0x00 0x27 7 running).issuedWrite = some [0x05, 0x00, 0xA7, 0x00, 0x00, 0x00, 0x07, 0x65] ∧
        decode .tx [0x05, 0x00, 0xA7, 0x00, 0x00, 0x00, 0x07, 0x65] = .ok (.wVmax 0x00 7 0x65)) ∧
      nextAgent (placeRead 0x00 0x22 running) = .requester ∧
      (placeRead 0x00 0x22 running).issuedRead = some [0x05, 0x00, 0x22, 0x2E] ∧
      (nextAgent (placeReply (mkReply 0x22 7) running) = .delivery ∧
        (placeReply (mkReply 0x22 7) running).rxIn = mkReply 0x22 7 :: [] ∧
        (placeReply (mkReply 0x22 7) running).lock = .free ∧
        decode .rx (mkReply 0x22 7) = .ok (.yVactual 7 (replyCrc 0x22 7))) ∧
      nextAgent (offering .close [.caller] running) = .caller ∧ (offering .close [.caller] running).cmdIn = .close :: [] ∧
      (offering .close [.caller] running).curCmd = none ∧ (offering .close [.caller] running).lifecycle ≠ .configuring := by
  decide +kernel

/-- PlacedFrameRuns: a W, an R and a Y word. -/
theorem witness_placed :
    decodeTableWord 64 0x0500A70001F4005B = some (.wVmax 0x00 128000 0x5B) ∧ WellFormed (.wVmax 0x00 128000 0x5B) ∧
      decodeTableWord 32 0x0500222E = some (.rVactual 0x00 0x2E) ∧ WellFormed (.rVactual 0x00 0x2E) ∧
      decodeTableWord 64 0x05FF220001F4008E = some (.yVactual 128000 0x8E) ∧ WellFormed (.yVactual 128000 0x8E) := by
  decide +kernel

/-- A placed word runs as the first step after reset. -/
theorem test_withFetchWord :
    (after (step (State.reset.withFetchWord 64 0x0500A70001F4005B))).map State.outputs =
        some [.tx [0x05, 0x00, 0xA7, 0x00, 0x01, 0xF4, 0x00, 0x5B]] ∧
      (after (step (State.reset.withFetchWord 32 0x0500222E))).map State.outputs = some [.tx [0x05, 0x00, 0x22, 0x2E]] ∧
      (after (step (State.reset.withFetchWord 64 0x05FF220001F4008E))).map State.pendingReply =
        some (.full [0x05, 0xFF, 0x22, 0x00, 0x01, 0xF4, 0x00, 0x8E]) := by
  decide +kernel

/-- States in the middle of each command, one for each kind of position the invariant tells apart. -/
def midRun : List State :=
  [atStep (.start 1) 2 fresh0, atStep (.start 1) 3 { fresh0 with channelOpen := true },
   settling (.start 1) 5 { running with lifecycle := .configuring },
   answered (.reset 1) 22 [] { running with lifecycle := .configuring },
   atStep (.reset 1) 27 { running with lifecycle := .configuring }, atStep (.reset 1) 28 running,
   settling (.setVelocity 5) 3 running, awaiting .checkStatus 2 { running with lifecycle := .faulted },
   expired .checkStatus 3 running, atStep .checkStatus 4 running, atStep .close 1 running,
   atStep .close 2 { running with lifecycle := .closed, channelOpen := false },
   atStep (.enableStallException true) 1 { fresh0 with lifecycle := .closed }]

/-- StepKeepsInv, StepNeverStops, LifecycleTransitions, ClosedIsTerminal: the invariant holds in the middle of runs. -/
theorem witness_inv : Inv running ∧ ∀ s ∈ midRun, Inv s := by
  decide +kernel

/-- The invariant rules something out: SEQ_PC without a command, a settle without its timer, a velocity out of range. -/
theorem test_inv_rejects :
    ¬ Inv { running with seqPc := .step 1 .issue } ∧ ¬ Inv { settling (.setVelocity 5) 3 running with settleTimer := .disarmed } ∧
      ¬ Inv { running with desiredRps := 6 } ∧ ¬ Inv { running with channelOpen := false } ∧
      ¬ Inv { running with lock := .heldByDelivery } := by
  decide +kernel

/-- Where STATE is after the requester's turn. -/
def lifecycleAfter (s : State) : Option Lifecycle :=
  (after (step { s with schedule := [.requester] })).map State.lifecycle

/-- LifecycleTransitions: a changing step for each row of its table. -/
theorem witness_transitions :
    lifecycleAfter (atStep (.start 1) 3 { fresh0 with channelOpen := true }) = some .configuring ∧
      lifecycleAfter (atStep (.start 1) 27 { running with lifecycle := .configuring }) = some .running ∧
      lifecycleAfter (answered (.reset 1) 22 [] { running with lifecycle := .configuring }) = some .faulted ∧
      lifecycleAfter (atStep (.reset 1) 3 { running with lifecycle := .faulted }) = some .configuring ∧
      lifecycleAfter (atStep .checkStatus 4 { running with statusWork := { decoded with overTemp := true } }) = some .faulted ∧
      lifecycleAfter (atStep .close 1 { running with closeAnswers := [true] }) = some .closed := by
  decide +kernel

/-- OutputsOfAStep, ResultsEndCommands, ErrorsAreRaisedWhereTheTableSays, ControlRegisterWriters, ReadUnitWriters,
KeptForTheWholeRun, StatusWorkUnobservable: steps that change what the statements speak of. -/
theorem witness_writers :
    (after (step { atStep (.setVelocity 6) 1 running with schedule := [.requester] })).map
          (fun t => (t.curCmd, t.outputs)) = some (none, [.result (.err .invalidVelocity)]) ∧
      (after (step { atStep (.setVelocity 1) 2 running with schedule := [.requester] })).map State.desiredRps = some 1 ∧
      (after (step { running with rxIn := [[]], schedule := [.delivery] })).map State.pendingReply = some (.full []) ∧
      (after (step { awaiting .checkStatus 2 running with schedule := [.readTimer] })).map State.wake = some .timedOut ∧
      (after (steps 1 { running with refusalMark := true })).map State.refusalMark = some true ∧
      running.curCmd ≠ some .checkStatus := by
  decide +kernel

end Sys2Proof.Tests
end

section
/-! SUPPORT. Proofs of the obligations of 00_scope.md: the frames under the decoder, frames placed for the next step, refused
commands, and what one step and a whole run do to the ports, to CUR_CMD and to the configuration. -/

namespace Sys2Proof.Proofs

open Sys2Proof Sys2Proof.Machine Sys2Proof.Safety

/-! ### Bytes and words -/

theorem extractLsb'_append_byte {n : Nat} (x : BitVec n) (y : Byte) (i : Nat) :
    (x ++ y).extractLsb' (i + 8) 8 = x.extractLsb' i 8 :=
  (BitVec.extractLsb'_append_eq_of_le (Nat.le_add_left 8 i)).trans (by rw [Nat.add_sub_cancel])

theorem extractLsb'_append_byte_zero {n : Nat} (x : BitVec n) (y : Byte) : (x ++ y).extractLsb' 0 8 = y :=
  (BitVec.extractLsb'_append_eq_of_add_le (Nat.le_refl 8)).trans BitVec.extractLsb'_eq_self

/-- Big-endian concatenation undoes `bytes4` (R12). -/
@[simp] theorem u32_bytes4 (d : Word) :
    u32 (d.extractLsb' 24 8) (d.extractLsb' 16 8) (d.extractLsb' 8 8) (d.extractLsb' 0 8) = d := by
  show (d.extractLsb' 24 8 ++ d.extractLsb' 16 8 ++ d.extractLsb' 8 8 ++ d.extractLsb' 0 8 : BitVec (8 + 8 + 8 + 8)) = d
  rw [BitVec.extractLsb'_append_extractLsb'_eq_extractLsb' (start₂ := 24) (start₁ := 16) rfl,
    BitVec.extractLsb'_append_extractLsb'_eq_extractLsb' (start₂ := 16) (start₁ := 8) rfl,
    BitVec.extractLsb'_append_extractLsb'_eq_extractLsb' (start₂ := 8) (start₁ := 0) rfl]
  exact BitVec.extractLsb'_eq_self

/-- `bytes4` undoes big-endian concatenation (R12). -/
@[simp] theorem bytes4_u32 (b3 b2 b1 b0 : Byte) : bytes4 (u32 b3 b2 b1 b0) = [b3, b2, b1, b0] := by
  have h3 : (u32 b3 b2 b1 b0).extractLsb' 24 8 = b3 :=
    (extractLsb'_append_byte _ b0 16).trans <| (extractLsb'_append_byte _ b1 8).trans <|
      (extractLsb'_append_byte b3 b2 0).trans BitVec.extractLsb'_eq_self
  have h2 : (u32 b3 b2 b1 b0).extractLsb' 16 8 = b2 :=
    (extractLsb'_append_byte _ b0 8).trans <| (extractLsb'_append_byte _ b1 0).trans (extractLsb'_append_byte_zero b3 b2)
  have h1 : (u32 b3 b2 b1 b0).extractLsb' 8 8 = b1 :=
    (extractLsb'_append_byte _ b0 0).trans (extractLsb'_append_byte_zero _ b1)
  have h0 : (u32 b3 b2 b1 b0).extractLsb' 0 8 = b0 := extractLsb'_append_byte_zero _ b0
  rw [bytes4, h3, h2, h1, h0]

@[simp] theorem regOfByte_readRegByte (reg : RegAddr) : regOfByte (readRegByte reg) = reg := by
  simp [regOfByte, readRegByte]

@[simp] theorem regOfByte_writeRegByte (reg : RegAddr) : regOfByte (writeRegByte reg) = reg := by
  have hbit : Const.writeBit.setWidth 7 = 0 := rfl
  rw [regOfByte, writeRegByte, BitVec.setWidth_or, hbit]
  exact BitVec.or_zero.trans (regOfByte_readRegByte reg)

@[simp] theorem readRegByte_bit7 (reg : RegAddr) : (readRegByte reg)[7] = false := by
  simp [readRegByte]

@[simp] theorem writeRegByte_bit7 (reg : RegAddr) : (writeRegByte reg)[7] = true := by
  simp [writeRegByte, Const.writeBit]

/-- A byte with bit 7 clear is the register byte of a read request. -/
theorem readRegByte_regOfByte : ∀ {b : Byte}, b.getLsbD 7 = false → readRegByte (regOfByte b) = b := by
  decide +kernel

/-- A byte with bit 7 set is the register byte of a write frame. -/
theorem writeRegByte_regOfByte : ∀ {b : Byte}, b.getLsbD 7 = true → writeRegByte (regOfByte b) = b := by
  decide +kernel

/-! ### The decoder on the frames -/

@[simp] theorem decode_writeFrame (slave : Byte) (reg : RegAddr) (d : Word) (crc : Byte) :
    decode .tx (writeFrame slave reg d crc) = .ok (writeInstr slave reg d crc) := by
  show decodeWrite Const.sync slave (writeRegByte reg) _ _ _ _ crc = _
  simp [decodeWrite]

@[simp] theorem decode_readFrame (slave : Byte) (reg : RegAddr) (crc : Byte) :
    decode .tx (readFrame slave reg crc) = .ok (readInstr slave reg crc) := by
  show decodeRead Const.sync slave (readRegByte reg) crc = _
  simp [decodeRead]

@[simp] theorem decode_replyFrame (regByte : Byte) (d : Word) (crc : Byte) :
    decode .rx (replyFrame regByte d crc) = .ok (replyInstr regByte d crc) := by
  show decodeReplyFrame Const.sync Const.masterAddress regByte _ _ _ _ crc = _
  simp [decodeReplyFrame]

/-- What the TX port decodes is a W or an R frame, to its row (R81, R82). -/
theorem decode_tx_eq_ok {bytes : List Byte} {i : Instr} (h : decode .tx bytes = .ok i) :
    (∃ slave reg d crc, bytes = writeFrame slave reg d crc ∧ i = writeInstr slave reg d crc) ∨
      ∃ slave reg crc, bytes = readFrame slave reg crc ∧ i = readInstr slave reg crc := by
  unfold decode at h
  split at h <;> try contradiction
  · next b0 b1 b2 b3 _ =>
    unfold decodeRead at h
    split at h <;> try contradiction
    next hsync =>
    split at h <;> try contradiction
    next hbit =>
    refine .inr ⟨b1, regOfByte b2, b3, ?_, (Except.ok.inj h).symm⟩
    rw [readFrame, readHeader, readRegByte_regOfByte (by simpa using hbit), of_not_not hsync]
    rfl
  · next b0 b1 b2 b3 b4 b5 b6 b7 _ =>
    unfold decodeWrite at h
    split at h <;> try contradiction
    next hsync =>
    split at h <;> try contradiction
    next hbit =>
    refine .inl ⟨b1, regOfByte b2, u32 b3 b4 b5 b6, b7, ?_, (Except.ok.inj h).symm⟩
    rw [writeFrame, writeHeader, bytes4_u32, writeRegByte_regOfByte hbit, of_not_not hsync]
    rfl

/-- What the RX port decodes is a Y frame, to its row (R83). -/
theorem decode_rx_eq_ok {bytes : List Byte} {i : Instr} (h : decode .rx bytes = .ok i) :
    ∃ regByte d crc, bytes = replyFrame regByte d crc ∧ i = replyInstr regByte d crc := by
  unfold decode at h
  split at h <;> try contradiction
  next b0 b1 b2 b3 b4 b5 b6 b7 _ =>
  unfold decodeReplyFrame at h
  split at h <;> try contradiction
  next hsync =>
  split at h <;> try contradiction
  next hmaster =>
  refine ⟨b2, u32 b3 b4 b5 b6, b7, ?_, (Except.ok.inj h).symm⟩
  rw [replyFrame, replyHeader, bytes4_u32, of_not_not hsync, of_not_not hmaster]
  rfl

/-! ### The rows of decoded frames -/

/-- A decoded RX frame is received as the bytes it was decoded from. -/
theorem exec_of_decode_rx {bytes : List Byte} {i : Instr} (h : decode .rx bytes = .ok i) (s : State) :
    exec i s = receive bytes s := by
  obtain ⟨regByte, d, crc, rfl, rfl⟩ := decode_rx_eq_ok h
  exact exec_replyInstr regByte d crc s

theorem receive_of_free {buf : List Byte} {s : State} (hl : s.lock = .free) : receive buf s = .next (s.deposit buf) := by
  simp [receive, hl]

/-- A well-formed W row carries the CRC of its fields (R113). -/
theorem crc_of_wf_writeInstr {slave : Byte} {reg : RegAddr} {d : Word} {crc : Byte} :
    WellFormed (writeInstr slave reg d crc) → crc = writeCrc slave reg d := by
  unfold writeInstr
  iterate 17
    refine instr_ite (P := fun i => WellFormed i → crc = writeCrc slave reg d) (fun h => by rw [h]; exact eq_of_beq) ?_
  exact fun h => eq_of_beq (Bool.and_eq_true_iff.mp h).1

/-- A well-formed R row carries the CRC of its fields (R113). -/
theorem crc_of_wf_readInstr {slave : Byte} {reg : RegAddr} {crc : Byte} :
    WellFormed (readInstr slave reg crc) → crc = readCrc slave reg := by
  unfold readInstr
  iterate 6
    refine instr_ite (P := fun i => WellFormed i → crc = readCrc slave reg) (fun h => by rw [h]; exact eq_of_beq) ?_
  exact fun h => eq_of_beq (Bool.and_eq_true_iff.mp h).1

/-! ### The step, by the agent -/

theorem step_of_agent {s : State} {a : Agent} (ha : nextAgent s = a) : step s = agentMove a s.tick := by
  rw [step, ha]

/-- The requester's move at an issued W is the W row of its fields. -/
theorem requesterMove_of_issuedWrite {s : State} {frame : List Byte} {i : Instr} (hf : s.issuedWrite = some frame)
    (hd : decode .tx frame = .ok i) : requesterMove s = exec i s := by
  obtain ⟨k, reg, v, hpc, hop, rfl⟩ := issuedWrite_eq_some hf
  obtain rfl := Except.ok.inj ((decode_writeFrame _ _ _ _).symm.trans hd)
  rw [requesterMove_issue hpc hop, issueMove]

/-- The requester's move at an issued read is the R row of its fields. -/
theorem requesterMove_of_issuedRead {s : State} {frame : List Byte} {i : Instr} (hf : s.issuedRead = some frame)
    (hd : decode .tx frame = .ok i) : requesterMove s = exec i s := by
  obtain ⟨k, reg, hpc, rfl, ⟨v, hop⟩ | ⟨kind, hop⟩⟩ := issuedRead_eq_some hf
  all_goals
    obtain rfl := Except.ok.inj ((decode_readFrame _ _ _).symm.trans hd)
    rw [requesterMove_issue hpc hop, issueMove]

/-- Settles O43: a W or R frame decodes to the row the requester runs, and the other two agents' moves are `exec` by
definition. -/
theorem stepRunsDecodedInstruction : Obligations.StepRunsDecodedInstruction := by
  intro s
  refine ⟨fun frame i ha hf hd => ?_, fun buf rest i ha hrx hl hd => ?_, fun c rest ha hc hcur hlc => ?_⟩
  · rw [step_of_agent ha]
    exact hf.elim (requesterMove_of_issuedWrite (s := s.tick) · hd) (requesterMove_of_issuedRead (s := s.tick) · hd)
  · simp [step_of_agent ha, agentMove, deliveryMove, hrx, hl, hd]
  · simp [step_of_agent ha, agentMove, callerMove, hc, State.portReady, hcur, hlc]

/-! ### Placed frames (log 22) -/

@[simp] theorem placeFrame_writeFrame (slave : Byte) (reg : RegAddr) (d : Word) (crc : Byte) (s : State) :
    placeFrame (writeFrame slave reg d crc) s = placeWrite slave reg d s := by
  have h : placeFrame (writeFrame slave reg d crc) s =
      placeWrite slave (regOfByte (writeRegByte reg))
        (u32 (d.extractLsb' 24 8) (d.extractLsb' 16 8) (d.extractLsb' 8 8) (d.extractLsb' 0 8)) s := by
    unfold placeFrame
    rw [decode_writeFrame]
    rfl
  rw [h, regOfByte_writeRegByte, u32_bytes4]

@[simp] theorem placeFrame_readFrame (slave : Byte) (reg : RegAddr) (crc : Byte) (s : State) :
    placeFrame (readFrame slave reg crc) s = placeRead slave reg s := by
  have h : placeFrame (readFrame slave reg crc) s = placeRead slave (regOfByte (readRegByte reg)) s := by
    unfold placeFrame
    rw [decode_readFrame]
    rfl
  rw [h, regOfByte_readRegByte]

theorem placeFrame_of_tx_error {bytes : List Byte} {e : Reject} (h : decode .tx bytes = .error e) (s : State) :
    placeFrame bytes s = placeReply bytes s := by
  simp [placeFrame, h]

/-- A table word is read as TX first, and as RX only when that fails (log 11). -/
theorem decodeTableWord_eq_some {nbits w : Nat} {i : Instr} (h : decodeTableWord nbits w = some i) :
    decode .tx (wordBytes (nbits / 8) w) = .ok i ∨
      (∃ e, decode .tx (wordBytes (nbits / 8) w) = .error e) ∧ decode .rx (wordBytes (nbits / 8) w) = .ok i := by
  unfold decodeTableWord at h
  split at h
  · next j hj => exact .inl (hj.trans (congrArg _ (Option.some.inj h)))
  · next e he =>
    refine .inr ⟨⟨e, he⟩, ?_⟩
    cases hd : decode .rx (wordBytes (nbits / 8) w) with
    | ok j =>
      rw [hd] at h
      exact congrArg _ (Option.some.inj h)
    | error e => rw [hd] at h; cases h

/-- A placed write runs as the W row of its fields, with the CRC the block assembles (R84). -/
theorem placeWrite_runs (slave : Byte) (reg : RegAddr) (d : Word) (s : State) :
    step (placeWrite slave reg d s) = exec (writeInstr slave reg d (writeCrc slave reg d)) (placeWrite slave reg d s).tick ∧
    ∃ t, step (placeWrite slave reg d s) = .next t := by
  have hf : (placeWrite slave reg d s).issuedWrite = some (encodeWrite slave reg d) := rfl
  have hstep := (stepRunsDecodedInstruction _).1 _ _ rfl (.inl hf) (decode_writeFrame slave reg d _)
  exact ⟨hstep, _, hstep.trans ((exec_writeInstr ..).trans (transmitWrite_of_issued hf))⟩

/-- A placed read runs as the R row of its fields, with the CRC the block assembles (R84). -/
theorem placeRead_runs (slave : Byte) (reg : RegAddr) (s : State) :
    step (placeRead slave reg s) = exec (readInstr slave reg (readCrc slave reg)) (placeRead slave reg s).tick ∧
    ∃ t, step (placeRead slave reg s) = .next t := by
  have hf : (placeRead slave reg s).issuedRead = some (encodeRead slave reg) := rfl
  have hstep := (stepRunsDecodedInstruction _).1 _ _ rfl (.inr hf) (decode_readFrame slave reg _)
  exact ⟨hstep, _, hstep.trans ((exec_readInstr ..).trans (transmitRead_of_issued hf rfl))⟩

/-- A placed reply runs as the row it decodes to. -/
theorem placeReply_runs {bytes : List Byte} {i : Instr} (hd : decode .rx bytes = .ok i) (s : State) :
    step (placeReply bytes s) = exec i { (placeReply bytes s).tick with rxIn := s.rxIn } ∧
    ∃ t, step (placeReply bytes s) = .next t := by
  have hstep := (stepRunsDecodedInstruction (placeReply bytes s)).2.1 _ _ _ rfl rfl rfl hd
  exact ⟨hstep, _, hstep.trans ((exec_of_decode_rx hd _).trans (receive_of_free rfl))⟩

/-- Settles O44: the bytes are a W, an R or a Y frame, its CRC byte is the one the block assembles, and each kind is placed where
the next step runs it. -/
theorem placedFrameRuns : Obligations.PlacedFrameRuns := by
  intro s nbits w i hi hwf
  unfold State.withFetchWord
  obtain htx | ⟨⟨e, htx⟩, hrx⟩ := decodeTableWord_eq_some hi
  · obtain ⟨slave, reg, d, crc, hb, rfl⟩ | ⟨slave, reg, crc, hb, rfl⟩ := decode_tx_eq_ok htx
    · obtain rfl := crc_of_wf_writeInstr hwf
      rw [hb, placeFrame_writeFrame]
      exact placeWrite_runs slave reg d s
    · obtain rfl := crc_of_wf_readInstr hwf
      rw [hb, placeFrame_readFrame]
      exact placeRead_runs slave reg s
  · rw [placeFrame_of_tx_error htx]
    exact placeReply_runs hrx s

/-! ### The command port -/

theorem portReady_iff (s : State) : s.portReady = true ↔ s.curCmd = none ∧ s.lifecycle ≠ .configuring := by
  simp [State.portReady]

/-- A command that the legality table refuses, on a port with no command in progress, only leaves its mark and its result
(R231; log 14). -/
theorem exec_commandInstr_of_refuse {s : State} {c : Command} (hcur : s.curCmd = none)
    (ha : admission s.lifecycle c = .refuse) :
    exec (commandInstr c) s = .next { s with refusalMark := true, outputs := s.outputs ++ [.result .refused] } := by
  have hl : s.lifecycle ≠ .configuring := fun h => by rw [h] at ha; cases ha
  rw [exec_commandInstr, submit, if_pos ((portReady_iff s).mpr ⟨hcur, hl⟩), ha]
  rfl

/-- Settles O33, from the legality table's entry for each command. -/
theorem commandsRefused : Obligations.CommandsRefused := by
  intro s rps hcur
  refine ⟨fun hl => exec_commandInstr_of_refuse (c := .start rps) hcur ?_, fun hl => ?_⟩
  · rcases hl with hl | hl | hl <;> rw [hl] <;> rfl
  · have ha : ∀ c ∈ [Command.setVelocity rps, .resetPositionCounter, .checkStatus, .reset rps, .close],
        admission s.lifecycle c = .refuse := by
      rcases hl with hl | hl <;> simp [hl, admission]
    have h := (List.forall_mem_map (f := commandInstr) (P := fun i => exec i s = _)).mpr
      fun c hc => exec_commandInstr_of_refuse hcur (ha c hc)
    exact h

/-! ### The error taxonomy -/

/-- Settles O12, by computing the three functions on each variant. -/
theorem errorTaxonomy : Obligations.ErrorTaxonomy :=
  ⟨rfl, rfl, rfl, fun _ => ⟨fun _ => rfl, rfl, rfl⟩⟩

/-! ### Micro-operations -/

/-- The register a micro-operation's frame addresses. -/
def opRegister : MicroOp → Option RegAddr
  | .write reg _ | .readBack reg _ | .readStatus _ reg => some reg
  | .validate _ | .openLink | .setState _ | .setRps _ | .powerCycle | .fresh | .eval | .setFlag _ _ | .closeLink
  | .ret _ => none

/-- Micro-programs address the 19 registers of rule R62 and no other (R61). -/
theorem opRegister_mem_addresses (cfg : Config) (c : Command) :
    ∀ op ∈ microProgram cfg c, ∀ reg ∈ opRegister op, reg ∈ cfg.addresses := by
  cases c <;>
    simp [microProgram, configBody, configWrites, configReadBacks, opRegister, Config.addresses]

theorem mem_microProgram_of_microOpAt {cfg : Config} {c : Command} {k : Nat} {op : MicroOp}
    (h : microOpAt cfg c k = some op) : op ∈ microProgram cfg c := by
  cases k with
  | zero => cases h
  | succ k => exact List.mem_of_getElem? h

/-- A micro-operation at SEQ_PC is a step of CUR_CMD's micro-program. -/
theorem currentOp_eq_some {s : State} {op : MicroOp} (h : s.currentOp = some op) :
    ∃ c k p, s.curCmd = some c ∧ s.seqPc = .step k p ∧ microOpAt s.cfg c k = some op := by
  unfold State.currentOp at h
  split at h
  · next c k p hc hpc => exact ⟨c, k, p, hc, hpc, h⟩
  · cases h

/-- The frame of a micro-operation at SEQ_PC addresses a configured register. -/
theorem currentOp_register {s : State} {op : MicroOp} {reg : RegAddr} (h : s.currentOp = some op)
    (hr : opRegister op = some reg) : reg ∈ s.cfg.addresses := by
  obtain ⟨c, k, p, -, -, hop⟩ := currentOp_eq_some h
  exact opRegister_mem_addresses s.cfg c op (mem_microProgram_of_microOpAt hop) reg hr

/-! ### What one step does to the ports -/

/-- From `s` to `t` the command in progress goes on and the ports show `evs`. -/
structure GoesOn (s t : State) (evs : List Output) : Prop where
  cfg : t.cfg = s.cfg
  refusalMark : t.refusalMark = s.refusalMark
  curCmd : t.curCmd = s.curCmd
  outputs : t.outputs = s.outputs ++ evs

/-- From `s` to `t` the command in progress ends with the result `r`, after `evs` on the ports. -/
structure Ends (s t : State) (evs : List Output) (r : CmdResult) : Prop where
  cfg : t.cfg = s.cfg
  refusalMark : t.refusalMark = s.refusalMark
  curCmd : t.curCmd = none
  seqPc : t.seqPc = .idle
  outputs : t.outputs = s.outputs ++ (evs ++ [.result r])

/-- Everything a move of the requester can do to the ports and to CUR_CMD. -/
inductive RequesterEffect (s t : State) : Prop where
  | silent (h : GoesOn s t [])
  | write {k : Nat} {reg : RegAddr} {v : Word} (hpc : s.seqPc = .step k .issue) (hop : s.currentOp = some (.write reg v))
      (h : GoesOn s t [.tx (encodeWrite s.cfg.slaveAddress reg v)])
  | read {k : Nat} {reg : RegAddr} (hpc : s.seqPc = .step k .issue)
      (hop : (∃ v, s.currentOp = some (.readBack reg v)) ∨ ∃ kind, s.currentOp = some (.readStatus kind reg))
      (h : GoesOn s t [.tx (encodeRead s.cfg.slaveAddress reg)])
  | opens {a : OpenAnswer} (hop : s.currentOp = some .openLink) (h : GoesOn s t [.linkOpen a])
  | openFails {a : OpenAnswer} {e : CmdError} (hop : s.currentOp = some .openLink) (h : Ends s t [.linkOpen a] (.err e))
  | closes {b : Bool} (hop : s.currentOp = some .closeLink) (h : GoesOn s t [.linkClose b])
  | raises {op : MicroOp} {e : CmdError} (hop : s.currentOp = some op) (h : Ends s t [] (.err e))
  | returns {v : RetValue} (hop : s.currentOp = some (.ret v)) (h : Ends s t [] (.ok (s.retValue v)))

theorem goesOn_nil {s t : State} (hcfg : t.cfg = s.cfg) (hmark : t.refusalMark = s.refusalMark)
    (hcur : t.curCmd = s.curCmd) (hout : t.outputs = s.outputs) : GoesOn s t [] :=
  ⟨hcfg, hmark, hcur, hout.trans (List.append_nil _).symm⟩

theorem GoesOn.refl (s : State) : GoesOn s s [] :=
  goesOn_nil rfl rfl rfl rfl

theorem GoesOn.outputs_nil {s t : State} (h : GoesOn s t []) : t.outputs = s.outputs :=
  h.outputs.trans (List.append_nil _)

theorem GoesOn.advance {s t : State} {evs : List Output} (h : GoesOn s t evs) : GoesOn s t.advance evs :=
  ⟨by simp [h.cfg], by simp [h.refusalMark], by simp [h.curCmd], by simp [h.outputs]⟩

theorem GoesOn.raise {s t : State} {evs : List Output} (h : GoesOn s t evs) (e : CmdError) : Ends s (t.raise e) evs (.err e) :=
  ⟨h.cfg, h.refusalMark, rfl, rfl, by simp [h.outputs]⟩

theorem GoesOn.retOk {s t : State} {evs : List Output} (h : GoesOn s t evs) (v : CmdValue) : Ends s (t.retOk v) evs (.ok v) :=
  ⟨h.cfg, h.refusalMark, rfl, rfl, by simp [h.outputs]⟩

theorem goesOn_issueWrite (s : State) (f : List Byte) : GoesOn s (s.issueWrite f) [.tx f] :=
  ⟨by simp, by simp, by simp, by simp⟩

theorem goesOn_issueRead (s : State) (f : List Byte) : GoesOn s (s.issueRead f) [.tx f] :=
  ⟨by simp, by simp, by simp, by simp⟩

theorem goesOn_endWait (s : State) : GoesOn s s.endWait [] :=
  goesOn_nil rfl rfl rfl rfl

theorem goesOn_readTimeout (s : State) : GoesOn s s.readTimeout [] :=
  ⟨by simp, by simp, by simp, by simp⟩

theorem goesOn_settleEnd (s : State) : GoesOn s s.settleEnd [] :=
  ⟨by simp, by simp, by simp, by simp⟩

theorem goesOn_setFlagMove (which : ExcFlag) (b : Bool) (s : State) : GoesOn s (setFlagMove which b s) [] := by
  cases which <;> exact GoesOn.advance (goesOn_nil rfl rfl rfl rfl)

theorem openMove_effect {s t : State} (hop : s.currentOp = some .openLink) (h : openMove s = .next t) :
    RequesterEffect s t := by
  unfold openMove at h
  split at h
  · cases h; exact .silent (.refl s)
  · next a rest _ =>
    have hev : GoesOn s ({ s with openAnswers := rest }.emit (.linkOpen a)) [.linkOpen a] := ⟨rfl, rfl, rfl, rfl⟩
    cases a <;> cases h
    · exact .opens hop (GoesOn.advance ⟨rfl, rfl, rfl, rfl⟩)
    · exact .openFails hop (hev.raise _)
    · exact .openFails hop (hev.raise _)

theorem closeMove_effect {s t : State} (hop : s.currentOp = some .closeLink) (h : closeMove s = .next t) :
    RequesterEffect s t := by
  unfold closeMove at h
  split at h
  · cases h; exact .silent (.refl s)
  · cases h; exact .closes hop (GoesOn.advance ⟨rfl, rfl, rfl, rfl⟩)

theorem transmitRead_effect {s t : State} {f : List Byte} (h : transmitRead f s = .next t) : RequesterEffect s t := by
  obtain ⟨hf, ⟨-, rfl⟩ | ⟨-, rfl⟩⟩ := transmitRead_next h
  · obtain ⟨k, reg, hpc, rfl, hop⟩ := issuedRead_eq_some hf
    exact .read hpc hop (goesOn_issueRead s _)
  · exact .silent (.refl _)

theorem transmitWrite_effect {s t : State} {f : List Byte} (h : transmitWrite f s = .next t) : RequesterEffect s t := by
  obtain ⟨hf, rfl⟩ := transmitWrite_next h
  obtain ⟨k, reg, v, hpc, hop, rfl⟩ := issuedWrite_eq_some hf
  exact .write hpc hop (goesOn_issueWrite s _)

/-- The requester's move at a micro-operation in phase Issue. -/
theorem issueMove_effect {s t : State} {op : MicroOp} (hop : s.currentOp = some op) (h : issueMove op s = .next t) :
    RequesterEffect s t := by
  cases op with
  | validate rps =>
    simp only [issueMove] at h
    split at h <;> cases h
    · exact .silent (GoesOn.refl s).advance
    · exact .raises hop ((GoesOn.refl s).raise _)
  | openLink => exact openMove_effect hop h
  | closeLink => exact closeMove_effect hop h
  | write reg v => exact transmitWrite_effect ((exec_writeInstr ..).symm.trans h)
  | readBack reg v => exact transmitRead_effect ((exec_readInstr ..).symm.trans h)
  | readStatus kind reg => exact transmitRead_effect ((exec_readInstr ..).symm.trans h)
  | setState _ | setRps _ | fresh => cases h; exact .silent (GoesOn.advance (goesOn_nil rfl rfl rfl rfl))
  | powerCycle => cases h; exact .silent (GoesOn.refl s).advance
  | setFlag which b => cases h; exact .silent (goesOn_setFlagMove which b s)
  | ret v => cases h; exact .returns hop ((GoesOn.refl s).retOk _)
  | eval =>
    simp only [issueMove] at h
    split at h <;> cases h
    · exact .raises hop ((GoesOn.refl s).raise _)
    · exact .silent (GoesOn.refl s).advance

theorem readBackEnd_effect {s t : State} {op : MicroOp} (hop : s.currentOp = some op) (ht : GoesOn s t []) (expected : Word)
    (r : Except CmdError ValidatedReply) : RequesterEffect s (readBackEnd expected r t) := by
  unfold readBackEnd
  split
  · exact .raises hop (ht.raise _)
  · split
    · exact .silent ht.advance
    · exact .raises hop (ht.raise _)

theorem readStatusEnd_effect {s t : State} {op : MicroOp} (hop : s.currentOp = some op) (ht : GoesOn s t [])
    (kind : StatusKind) (r : Except CmdError ValidatedReply) : RequesterEffect s (readStatusEnd kind r t) := by
  unfold readStatusEnd
  split
  · exact .raises hop (ht.raise _)
  · exact .silent (GoesOn.advance ⟨ht.cfg, ht.refusalMark, ht.curCmd, ht.outputs⟩)

/-- The requester's move at a micro-operation in phase Await. -/
theorem wakeMove_effect {s t : State} {op : MicroOp} (hop : s.currentOp = some op) (h : wakeMove op s = .next t) :
    RequesterEffect s t := by
  unfold wakeMove at h
  split at h
  · split at h <;> cases h
    · exact readBackEnd_effect hop (goesOn_endWait s) _ _
    · exact .silent (.refl _)
  · split at h <;> cases h
    · exact readStatusEnd_effect hop (goesOn_endWait s) _ _
    · exact .silent (.refl _)
  all_goals cases h

theorem requesterMove_effect {s t : State} (h : requesterMove s = .next t) : RequesterEffect s t := by
  unfold requesterMove at h
  split at h
  · cases h; exact .silent (.refl _)
  · split at h
    · cases h
    · next op hop =>
      split at h
      · exact issueMove_effect hop h
      · cases h; exact .silent (.refl _)
      · exact wakeMove_effect hop h

theorem GoesOn.of_tick {s t : State} {evs : List Output} (h : GoesOn s.tick t evs) : GoesOn s t evs :=
  ⟨h.cfg, h.refusalMark, h.curCmd, h.outputs⟩

theorem Ends.of_tick {s t : State} {evs : List Output} {r : CmdResult} (h : Ends s.tick t evs r) : Ends s t evs r :=
  ⟨h.cfg, h.refusalMark, h.curCmd, h.seqPc, h.outputs⟩

theorem RequesterEffect.of_tick {s t : State} (h : RequesterEffect s.tick t) : RequesterEffect s t := by
  cases h with
  | silent h => exact .silent h.of_tick
  | write hpc hop h => exact .write hpc hop h.of_tick
  | read hpc hop h => exact .read hpc hop h.of_tick
  | opens hop h => exact .opens hop h.of_tick
  | openFails hop h => exact .openFails hop h.of_tick
  | closes hop h => exact .closes hop h.of_tick
  | raises hop h => exact .raises hop h.of_tick
  | returns hop h => exact .returns hop h.of_tick

/-- Everything a step can do to the ports, to CUR_CMD and to what a run keeps. -/
inductive StepEffect (s t : State) : Prop where
  | silent (h : GoesOn s t [])
  | requester (ha : nextAgent s = .requester) (h : RequesterEffect s t)
  | accepted (hcur : s.curCmd = none) (hcfg : t.cfg = s.cfg) (hmark : t.refusalMark = s.refusalMark)
      (hout : t.outputs = s.outputs)
  | refused (ha : nextAgent s = .caller) (hcur : s.curCmd = none) (hcur' : t.curCmd = none) (hcfg : t.cfg = s.cfg)
      (hmark : t.refusalMark = true) (hout : t.outputs = s.outputs ++ [.result .refused])

/-- With a buffer offered and LOCK Free the delivery deposits it, a Y frame or not (R145). -/
theorem deliveryMove_of_free {s : State} {buf : List Byte} {rest : List (List Byte)} (hrx : s.rxIn = buf :: rest)
    (hl : s.lock = .free) : deliveryMove s = .next ({ s with rxIn := rest }.deposit buf) := by
  have hr : receive buf { s with rxIn := rest } = .next ({ s with rxIn := rest }.deposit buf) := receive_of_free hl
  simp only [deliveryMove, hrx]
  rw [if_pos hl]
  split
  · next i hd => exact (exec_of_decode_rx hd _).trans hr
  · exact hr

theorem deliveryMove_goesOn {s t : State} (h : deliveryMove s = .next t) : GoesOn s t [] := by
  by_cases hoff : ∃ buf rest, s.rxIn = buf :: rest ∧ s.lock = .free
  · obtain ⟨buf, rest, hrx, hl⟩ := hoff
    rw [deliveryMove_of_free hrx hl] at h
    cases h
    exact goesOn_nil rfl rfl rfl rfl
  · unfold deliveryMove at h
    split at h
    · cases h; exact .refl s
    · next buf rest hrx =>
      rw [if_neg fun hl => hoff ⟨buf, rest, hrx, hl⟩] at h
      cases h; exact .refl s

theorem callerMove_effect {s t : State} (ha : nextAgent s = .caller) (h : callerMove s.tick = .next t) :
    StepEffect s t := by
  have hsame : GoesOn s s.tick [] := (GoesOn.refl s.tick).of_tick
  unfold callerMove at h
  split at h
  · cases h; exact .silent hsame
  · split at h
    · next hready =>
      have hcur : s.curCmd = none := ((portReady_iff _).mp hready).1
      rw [exec_commandInstr] at h
      obtain ⟨-, -, rfl⟩ | ⟨-, -, rfl⟩ | ⟨-, rfl⟩ := submit_next h
      · exact .accepted hcur rfl rfl rfl
      · exact .refused ha hcur hcur rfl rfl rfl
      · exact .silent (goesOn_nil rfl rfl rfl rfl)
    · cases h; exact .silent hsame

/-- What a step can do, whichever agent moves. -/
theorem step_effect {s t : State} (h : step s = .next t) : StepEffect s t := by
  unfold step agentMove at h
  split at h
  · next ha => exact callerMove_effect ha h
  · next ha => exact .requester ha (requesterMove_effect h).of_tick
  · exact .silent (deliveryMove_goesOn h).of_tick
  · cases h; exact .silent (goesOn_readTimeout s.tick).of_tick
  · cases h; exact .silent (goesOn_settleEnd s.tick).of_tick

/-! ### The step's outputs and results -/

/-- Settles O50, by the cases of `StepEffect`. -/
theorem outputsOfAStep : Obligations.OutputsOfAStep := by
  intro s t hstep
  cases step_effect hstep with
  | silent h => exact .inl h.outputs_nil
  | accepted _ _ _ hout => exact .inl hout
  | refused _ _ _ _ _ hout => exact .inr <| .inr <| .inr <| .inr <| .inr ⟨_, hout⟩
  | requester ha h =>
    cases h with
    | silent h => exact .inl h.outputs_nil
    | write hpc hop h => exact .inr <| .inl ⟨_, _, _, ha, hpc, hop, currentOp_register hop rfl, h.outputs⟩
    | read hpc hop h =>
      refine .inr <| .inr <| .inl ?_
      obtain ⟨v, hop⟩ | ⟨kind, hop⟩ := hop
      · exact ⟨_, _, v, .velocity, ha, hpc, .inl hop, currentOp_register hop rfl, h.outputs⟩
      · exact ⟨_, _, 0, kind, ha, hpc, .inr hop, currentOp_register hop rfl, h.outputs⟩
    | opens hop h => exact .inr <| .inr <| .inr <| .inl ⟨_, ha, hop, .inl h.outputs⟩
    | openFails hop h => exact .inr <| .inr <| .inr <| .inl ⟨_, ha, hop, .inr ⟨_, h.outputs⟩⟩
    | closes hop h => exact .inr <| .inr <| .inr <| .inr <| .inl ⟨_, ha, hop, h.outputs⟩
    | raises hop h => exact .inr <| .inr <| .inr <| .inr <| .inr ⟨_, h.outputs⟩
    | returns hop h => exact .inr <| .inr <| .inr <| .inr <| .inr ⟨_, h.outputs⟩

/-- With no command in progress the requester's turn shows nothing on the ports. -/
theorem RequesterEffect.goesOn_of_no_command {s t : State} (h : RequesterEffect s t) (hcur : s.curCmd = none) :
    GoesOn s t [] := by
  have hno : ∀ {op}, s.currentOp ≠ some op := fun hop => by
    obtain ⟨c, _, _, hc, -⟩ := currentOp_eq_some hop
    exact absurd (hcur.symm.trans hc) nofun
  cases h with
  | silent h => exact h
  | read _ hop _ => exact hop.elim (fun ⟨_, hop⟩ => (hno hop).elim) fun ⟨_, hop⟩ => (hno hop).elim
  | write _ hop _ | opens hop _ | openFails hop _ | closes hop _ | raises hop _ | returns hop _ => exact (hno hop).elim

/-- While a command is in progress, the requester's move leaves it in progress with no result on the ports, or ends it with one
result, the last event. -/
theorem RequesterEffect.goesOn_or_ends {s t : State} (h : RequesterEffect s t) :
    ∃ evs, (∀ r, Output.result r ∉ evs) ∧ (GoesOn s t evs ∨ ∃ r, r ≠ .refused ∧ Ends s t evs r) := by
  cases h with
  | silent h => exact ⟨_, by simp, .inl h⟩
  | write _ _ h | read _ _ h | opens _ h | closes _ h => exact ⟨_, by simp, .inl h⟩
  | openFails _ h | raises _ h | returns _ h => exact ⟨_, by simp, .inr ⟨_, by simp, h⟩⟩

/-- Settles O51, by the cases of `StepEffect`: only the requester's turn can end a command, and only the caller's refuse one. -/
theorem resultsEndCommands : Obligations.ResultsEndCommands := by
  intro s t hstep
  have heff := step_effect hstep
  refine ⟨fun c hc => ?_, fun hcur => ?_⟩
  · have hbusy : s.curCmd ≠ none := by simp [hc]
    cases heff with
    | silent h => exact .inl ⟨h.curCmd.trans hc, _, h.outputs, by simp⟩
    | accepted hcur | refused _ hcur => exact absurd hcur hbusy
    | requester _ h =>
      obtain ⟨evs, hevs, h | ⟨r, hr, h⟩⟩ := h.goesOn_or_ends
      · exact .inl ⟨h.curCmd.trans hc, evs, h.outputs, hevs⟩
      · exact .inr ⟨h.curCmd, h.seqPc, evs, r, hr, by simp [h.outputs], hevs⟩
  · cases heff with
    | silent h => exact .inl h.outputs_nil
    | requester _ h => exact .inl (h.goesOn_of_no_command hcur).outputs_nil
    | accepted _ _ _ hout => exact .inl hout
    | refused ha _ hcur' _ hmark hout => exact .inr ⟨ha, hout, hcur', hmark⟩

/-! ### Runs -/

/-- What a run keeps: the configuration, a refusal mark once set, and the outputs so far. -/
def Kept (s t : State) : Prop :=
  t.cfg = s.cfg ∧ (s.refusalMark = true → t.refusalMark = true) ∧ s.outputs <+: t.outputs

theorem Kept.refl (s : State) : Kept s s := ⟨rfl, id, List.prefix_refl _⟩

theorem Kept.trans {s u t : State} (h₁ : Kept s u) (h₂ : Kept u t) : Kept s t := by
  obtain ⟨hcfg₁, hmark₁, hout₁⟩ := h₁
  obtain ⟨hcfg₂, hmark₂, hout₂⟩ := h₂
  exact ⟨hcfg₂.trans hcfg₁, hmark₂ ∘ hmark₁, hout₁.trans hout₂⟩

theorem GoesOn.kept {s t : State} {evs : List Output} (h : GoesOn s t evs) : Kept s t :=
  ⟨h.cfg, h.refusalMark.trans, evs, h.outputs.symm⟩

theorem Ends.kept {s t : State} {evs : List Output} {r : CmdResult} (h : Ends s t evs r) : Kept s t :=
  ⟨h.cfg, h.refusalMark.trans, _, h.outputs.symm⟩

theorem step_kept {s t : State} (hstep : step s = .next t) : Kept s t := by
  cases step_effect hstep with
  | silent h => exact h.kept
  | accepted _ hcfg hmark hout => exact ⟨hcfg, hmark.trans, hout ▸ List.prefix_refl _⟩
  | refused _ _ _ hcfg hmark hout => exact ⟨hcfg, fun _ => hmark, _, hout.symm⟩
  | requester _ h =>
    obtain ⟨evs, -, h | ⟨r, -, h⟩⟩ := h.goesOn_or_ends
    · exact h.kept
    · exact h.kept

/-- A run of `n + 1` steps is a step and a run of `n`, on any machine of the host's interface. -/
theorem run_succ_next (M : Host.Core) {n : Nat} {s t : M.State} (h : M.run (n + 1) s = .next t) :
    ∃ u, M.step s = .next u ∧ M.run n u = .next t := by
  rw [Host.Core.run] at h
  split at h
  · next u hu => exact ⟨u, hu, h⟩
  all_goals cases h

/-- A reflexive relation that survives a step put before a run holds between the ends of every run. -/
theorem steps_induction {R : State → State → Prop} (hrefl : ∀ s, R s s)
    (hstep : ∀ s u t, step s = .next u → R u t → R s t) : ∀ n s t, steps n s = .next t → R s t
  | 0, s, _, h => Host.Outcome.next.inj h ▸ hrefl s
  | n + 1, s, t, h =>
    have ⟨u, hu, hrun⟩ := run_succ_next core h
    hstep s u t hu (steps_induction hrefl hstep n u t hrun)

/-- Settles O55, by induction over the run: every step keeps what `Kept` says. -/
theorem keptForTheWholeRun : Obligations.KeptForTheWholeRun :=
  steps_induction (R := Kept) Kept.refl fun _ _ _ hs h => (step_kept hs).trans h

end Sys2Proof.Proofs
end

section
/-! SUPPORT. Proofs of the obligations of 10_state.md. `RequesterMove` and `StepMove` say every next state a step can answer,
`Placed` where each micro-operation stands in the micro-programs; the invariant and who writes each register follow by cases. -/

namespace Sys2Proof.Proofs

open Sys2Proof Sys2Proof.Machine Sys2Proof.Safety

/-! ### The settle timer -/

/-- Settles O14, from the two laws of `settleEnd`. -/
theorem settleEndCompletesTheWrite : Obligations.SettleEndCompletesTheWrite :=
  fun _ => ⟨fun _ hpc ht => congrArg Host.Outcome.next (State.settleEnd_of_settle hpc ht), fun h =>
    congrArg Host.Outcome.next (h.elim State.settleEnd_of_not_settle State.settleEnd_of_disarmed)⟩

/-! ### What the requester's move answers -/

/-- The micro-operation is a W (R190). -/
def isWrite : MicroOp → Bool
  | .write _ _ => true
  | .validate _ | .openLink | .setState _ | .setRps _ | .readBack _ _ | .powerCycle | .fresh | .readStatus _ _ | .eval
  | .setFlag _ _ | .closeLink | .ret _ => false

/-- The micro-operation is a read: RB or RS (R191, R206). -/
def isRead : MicroOp → Bool
  | .readBack _ _ | .readStatus _ _ => true
  | .validate _ | .openLink | .setState _ | .setRps _ | .write _ _ | .powerCycle | .fresh | .eval | .setFlag _ _ | .closeLink
  | .ret _ => false

theorem atWrite_of_op {s : State} {op : MicroOp} (hop : s.currentOp = some op) : atWrite s = isWrite op := by
  cases op <;> simp [atWrite, isWrite, hop]

theorem atRead_of_op {s : State} {op : MicroOp} (hop : s.currentOp = some op) : atRead s = isRead op := by
  cases op <;> simp [atRead, isRead, hop]

/-- `Completes s op p u`: in phase `p` of `op` the requester completes it, and `u` is `s` with what `op` wrote, before SEQ_PC
goes on. -/
inductive Completes (s : State) : MicroOp → Phase → State → Prop where
  | validate {rps : Rat} (h : validRps rps) : Completes s (.validate rps) .issue s
  | openLink {rest : List OpenAnswer} (h : s.openAnswers = .ok :: rest) :
      Completes s .openLink .issue { { s with openAnswers := rest }.emit (.linkOpen .ok) with channelOpen := true }
  | setState (l : Lifecycle) : Completes s (.setState l) .issue { s with lifecycle := l }
  | setRps (rps : Rat) : Completes s (.setRps rps) .issue { s with desiredRps := rps }
  | powerCycle : Completes s .powerCycle .issue s
  | fresh : Completes s .fresh .issue { s with statusWork := MotorStatus.fresh s.cfg.dataCorruptInit }
  | eval (h : evalStatus s.statusWork s.stallExcEn s.velExcEn s.desiredRps = none) : Completes s .eval .issue s
  | setStallFlag (b : Bool) : Completes s (.setFlag .stall b) .issue { s with stallExcEn := b }
  | setVelocityFlag (b : Bool) : Completes s (.setFlag .velocity b) .issue { s with velExcEn := b }
  | closeLink {b : Bool} {rest : List Bool} (h : s.closeAnswers = b :: rest) :
      Completes s .closeLink .issue
        { { s with closeAnswers := rest }.emit (.linkClose b) with
          channelOpen := false, lifecycle := .closed, closeResult := b }
  | readBack {reg : RegAddr} {expected : Word} {v : ValidatedReply} (h : s.readResult = .ok v) (hv : v.data = expected) :
      Completes s (.readBack reg expected) .await s.endWait
  | readStatus {kind : StatusKind} {reg : RegAddr} {v : ValidatedReply} (h : s.readResult = .ok v) :
      Completes s (.readStatus kind reg) .await
        { s.endWait with statusWork := decodeStatus kind v.regByte v.data s.statusWork }

/-- `Fails s op p u e`: in phase `p` of `op` the requester raises `e`, and `u` is `s` before the raise. -/
inductive Fails (s : State) : MicroOp → Phase → State → CmdError → Prop where
  | validate {rps : Rat} (h : ¬ validRps rps) : Fails s (.validate rps) .issue s .invalidVelocity
  | portUnavailable {rest : List OpenAnswer} (h : s.openAnswers = .portUnavailable :: rest) :
      Fails s .openLink .issue ({ s with openAnswers := rest }.emit (.linkOpen .portUnavailable)) .portUnavailable
  | openFailed {rest : List OpenAnswer} (h : s.openAnswers = .openFailed :: rest) :
      Fails s .openLink .issue ({ s with openAnswers := rest }.emit (.linkOpen .openFailed)) .openFailed
  | eval {e : CmdError} (h : evalStatus s.statusWork s.stallExcEn s.velExcEn s.desiredRps = some e) : Fails s .eval .issue s e
  | read {op : MicroOp} {e : CmdError} (hop : isRead op = true) (h : s.readResult = .error e) : Fails s op .await s.endWait e
  | readBack {reg : RegAddr} {expected : Word} {v : ValidatedReply} (h : s.readResult = .ok v) (hv : v.data ≠ expected) :
      Fails s (.readBack reg expected) .await s.endWait .configReadbackFailed

/-- Every next state the requester's move can answer. -/
inductive RequesterMove (s : State) : State → Prop where
  | stays : RequesterMove s s
  | sends {k : Nat} {reg : RegAddr} {v : Word} (hpc : s.seqPc = .step k .issue) (hop : s.currentOp = some (.write reg v)) :
      RequesterMove s (s.issueWrite (encodeWrite s.cfg.slaveAddress reg v))
  | requests {k : Nat} {op : MicroOp} {frame : List Byte} (hpc : s.seqPc = .step k .issue) (hop : s.currentOp = some op)
      (hread : isRead op = true) (hf : s.issuedRead = some frame) : RequesterMove s (s.issueRead frame)
  | completes {k : Nat} {p : Phase} {op : MicroOp} {u : State} (hpc : s.seqPc = .step k p) (hop : s.currentOp = some op)
      (h : Completes s op p u) : RequesterMove s u.advance
  | raises {k : Nat} {p : Phase} {op : MicroOp} {u : State} {e : CmdError} (hpc : s.seqPc = .step k p)
      (hop : s.currentOp = some op) (h : Fails s op p u e) : RequesterMove s (u.raise e)
  | returns {k : Nat} {v : RetValue} (hpc : s.seqPc = .step k .issue) (hop : s.currentOp = some (.ret v)) :
      RequesterMove s (s.retOk (s.retValue v))

theorem transmitRead_move {s t : State} {f : List Byte} (h : transmitRead f s = .next t) : RequesterMove s t := by
  obtain ⟨hf, ⟨-, rfl⟩ | ⟨-, rfl⟩⟩ := transmitRead_next h
  · obtain ⟨k, reg, hpc, -, ⟨v, hop⟩ | ⟨kind, hop⟩⟩ := issuedRead_eq_some hf
    · exact .requests hpc hop rfl hf
    · exact .requests hpc hop rfl hf
  · exact .stays

theorem openMove_move {s t : State} {k : Nat} (hpc : s.seqPc = .step k .issue) (hop : s.currentOp = some .openLink)
    (h : openMove s = .next t) : RequesterMove s t := by
  unfold openMove at h
  split at h
  · cases h; exact .stays
  · next a rest ha =>
    cases a <;> cases h
    · exact .completes hpc hop (.openLink ha)
    · exact .raises hpc hop (.portUnavailable ha)
    · exact .raises hpc hop (.openFailed ha)

/-- The requester's move at a micro-operation in phase Issue. -/
theorem issueMove_move {s t : State} {k : Nat} {op : MicroOp} (hpc : s.seqPc = .step k .issue) (hop : s.currentOp = some op)
    (h : issueMove op s = .next t) : RequesterMove s t := by
  cases op with
  | validate rps =>
    simp only [issueMove] at h
    split at h <;> cases h
    · next hv => exact .completes hpc hop (.validate hv)
    · next hv => exact .raises hpc hop (.validate hv)
  | openLink => exact openMove_move hpc hop h
  | write reg v =>
    rw [← requesterMove_issue hpc hop, requesterMove_write hpc hop] at h
    cases h; exact .sends hpc hop
  | readBack reg v => exact transmitRead_move ((exec_readInstr ..).symm.trans h)
  | readStatus kind reg => exact transmitRead_move ((exec_readInstr ..).symm.trans h)
  | setState l => cases h; exact .completes hpc hop (.setState l)
  | setRps rps => cases h; exact .completes hpc hop (.setRps rps)
  | powerCycle => cases h; exact .completes hpc hop .powerCycle
  | fresh => cases h; exact .completes hpc hop .fresh
  | eval =>
    simp only [issueMove] at h
    split at h <;> cases h
    · next he => exact .raises hpc hop (.eval he)
    · next he => exact .completes hpc hop (.eval he)
  | setFlag which b =>
    cases which <;> cases h
    · exact .completes hpc hop (.setStallFlag b)
    · exact .completes hpc hop (.setVelocityFlag b)
  | closeLink =>
    simp only [issueMove, closeMove] at h
    split at h <;> cases h
    · exact .stays
    · next b rest hb => exact .completes hpc hop (.closeLink hb)
  | ret v => cases h; exact .returns hpc hop

/-- The requester's move at a micro-operation in phase Await. -/
theorem wakeMove_move {s t : State} {k : Nat} {op : MicroOp} (hpc : s.seqPc = .step k .await) (hop : s.currentOp = some op)
    (h : wakeMove op s = .next t) : RequesterMove s t := by
  unfold wakeMove at h
  split at h
  · split at h <;> cases h
    · unfold readBackEnd
      split
      · next e he => exact .raises hpc hop (.read rfl he)
      · next v hv =>
        split
        · next hd => exact .completes hpc hop (.readBack hv hd)
        · next hd => exact .raises hpc hop (.readBack hv hd)
    · exact .stays
  · split at h <;> cases h
    · unfold readStatusEnd
      split
      · next e he => exact .raises hpc hop (.read rfl he)
      · next v hv => exact .completes hpc hop (.readStatus hv)
    · exact .stays
  all_goals cases h

/-- What the requester's move can answer. -/
theorem requesterMove_move {s t : State} (h : requesterMove s = .next t) : RequesterMove s t := by
  unfold requesterMove at h
  split at h
  · cases h; exact .stays
  · next k p hpc =>
    split at h
    · cases h
    · next op hop =>
      cases p with
      | issue => exact issueMove_move hpc hop h
      | settle => cases h; exact .stays
      | await => exact wakeMove_move hpc hop h

/-! ### What a step answers -/

/-- Every next state a step can answer, by the agent that moves. -/
inductive StepMove (s : State) : State → Prop where
  | idles : StepMove s s.tick
  | requester {t : State} (ha : nextAgent s = .requester) (h : RequesterMove s.tick t) : StepMove s t
  | accepts {c : Command} {rest : List Command} (hready : s.portReady = true) (hadm : admission s.lifecycle c = .accept) :
      StepMove s { s.tick with cmdIn := rest, curCmd := some c, seqPc := .step 1 .issue }
  | refuses {rest : List Command} :
      StepMove s { { s.tick with cmdIn := rest }.emit (.result .refused) with refusalMark := true }
  | delivers {buf : List Byte} {rest : List (List Byte)} (ha : nextAgent s = .delivery) (hrx : s.rxIn = buf :: rest) :
      StepMove s ({ s.tick with rxIn := rest }.deposit buf)
  | readTimer (ha : nextAgent s = .readTimer) : StepMove s s.tick.readTimeout
  | settleTimer : StepMove s s.tick.settleEnd

/-- The legality table's busy column is Configuring, and no other (R232). -/
theorem admission_eq_busy_iff {l : Lifecycle} {c : Command} : admission l c = .busy ↔ l = .configuring := by
  cases l <;> cases c <;> simp [admission]

theorem callerMove_move {s t : State} (h : callerMove s.tick = .next t) : StepMove s t := by
  unfold callerMove at h
  split at h
  · cases h; exact .idles
  · next c rest _ =>
    split at h
    · next hready =>
      rw [exec_commandInstr] at h
      obtain ⟨-, hadm, rfl⟩ | ⟨-, -, rfl⟩ | ⟨hbusy, -⟩ := submit_next h
      · exact .accepts hready hadm
      · exact .refuses
      · obtain ⟨-, hl⟩ := (portReady_iff _).mp hready
        exact hbusy.elim (fun hp => absurd (hready.symm.trans hp) nofun) fun hb => absurd (admission_eq_busy_iff.mp hb) hl
    · cases h; exact .idles

/-- The delivery deposits the next buffer, or has no move. -/
theorem deliveryMove_cases (s : State) :
    deliveryMove s = .next s ∨
      ∃ buf rest, s.rxIn = buf :: rest ∧ deliveryMove s = .next ({ s with rxIn := rest }.deposit buf) := by
  cases hrx : s.rxIn with
  | nil => exact .inl (by simp [deliveryMove, hrx])
  | cons buf rest =>
    by_cases hl : s.lock = .free
    · exact .inr ⟨buf, rest, rfl, deliveryMove_of_free hrx hl⟩
    · exact .inl (by simp [deliveryMove, hrx, hl])

theorem deliveryMove_move {s t : State} (ha : nextAgent s = .delivery) (h : deliveryMove s.tick = .next t) : StepMove s t := by
  obtain hd | ⟨buf, rest, hrx, hd⟩ := deliveryMove_cases s.tick <;> cases h.symm.trans hd
  · exact .idles
  · exact .delivers ha hrx

/-- What a step can answer, whichever agent moves. -/
theorem step_move {s t : State} (h : step s = .next t) : StepMove s t := by
  unfold step agentMove at h
  split at h
  · exact callerMove_move h
  · next ha => exact .requester ha (requesterMove_move h)
  · next ha => exact deliveryMove_move ha h
  · next ha => cases h; exact .readTimer ha
  · cases h; exact .settleTimer

/-! ### Where the micro-operations stand -/

/-- The velocity argument of a command that has one. -/
def velocityArg : Command → Option Rat
  | .start rps | .setVelocity rps | .reset rps => some rps
  | .resetPositionCounter | .checkStatus | .enableStallException _ | .enableVelocityException _ | .close => none

/-- The command runs CONFIG_BODY: `start` or `reset` (R183). -/
def Configures (c : Command) : Prop :=
  ∃ rps, c = .start rps ∨ c = .reset rps

/-- Where rule R183 puts each micro-operation: the command and the step `k` it stands at. -/
def Placed (cfg : Config) (c : Command) (k : Nat) : MicroOp → Prop
  | .validate rps => k = 1 ∧ velocityArg c = some rps
  | .openLink => k = 2 ∧ ∃ rps, c = .start rps
  | .powerCycle => k = 2 ∧ ∃ rps, c = .reset rps
  | .setState l => Configures c ∧ (k = 3 ∧ l = .configuring ∨ k = 27 ∧ l = .running)
  | .setRps rps => velocityArg c = some rps ∧ (Configures c ∧ k = 4 ∨ k = 2 ∧ c = .setVelocity rps)
  | .write _ _ => Configures c ∧ 4 < k ∧ k < 27 ∨ (∃ rps, c = .setVelocity rps) ∨ c = .resetPositionCounter
  | .readBack _ _ => Configures c ∧ 4 < k ∧ k < 27
  | .fresh | .readStatus _ _ | .eval => c = .checkStatus
  | .setFlag .stall b => c = .enableStallException b
  | .setFlag .velocity b => c = .enableVelocityException b
  | .closeLink => k = 1 ∧ c = .close
  | .ret v => k = (microProgram cfg c).length ∧ (v = .statusWork → c = .checkStatus)

theorem placed_of_mem_zipIdx (cfg : Config) (c : Command) :
    ∀ p ∈ (microProgram cfg c).zipIdx 1, Placed cfg c p.2 p.1 := by
  cases c <;>
    simp [microProgram, configBody, configWrites, configReadBacks, Placed, Configures, velocityArg]

theorem placed_of_microOpAt {cfg : Config} {c : Command} {k : Nat} {op : MicroOp} (h : microOpAt cfg c k = some op) :
    Placed cfg c k op := by
  cases k with
  | zero => cases h
  | succ k => exact placed_of_mem_zipIdx cfg c (op, k + 1) (List.mk_mem_zipIdx_iff_le_and_getElem?_sub.mpr ⟨by simp, h⟩)

theorem microProgram_getLast? (cfg : Config) (c : Command) : ∃ v, (microProgram cfg c).getLast? = some (.ret v) := by
  cases c <;> exact ⟨_, rfl⟩

/-- After every micro-operation but RET comes another one (R183). -/
theorem microOpAt_succ {cfg : Config} {c : Command} {k : Nat} {op : MicroOp} (h : microOpAt cfg c k = some op)
    (hret : ∀ v, op ≠ .ret v) : ∃ op', microOpAt cfg c (k + 1) = some op' := by
  cases k with
  | zero => cases h
  | succ i =>
    obtain ⟨v, hv⟩ := microProgram_getLast? cfg c
    have hop : (microProgram cfg c)[i]? = some op := h
    obtain ⟨hi, -⟩ := List.getElem?_eq_some_iff.mp hop
    have hlast : (microProgram cfg c).length ≠ i + 1 := fun hlen => by
      rw [List.getLast?_eq_getElem?, hlen, Nat.add_sub_cancel, hop] at hv
      exact hret v (Option.some.inj hv)
    exact ⟨_, List.getElem?_eq_getElem (show i + 1 < _ by omega)⟩

/-! ### STATE and CHANNEL_OPEN through a command -/

/-- `Safety.sessionOk` at step `k` of command `c`, as a function of STATE and CHANNEL_OPEN. -/
def sessionAt (c : Command) (k : Nat) (l : Lifecycle) (o : Bool) : Bool :=
  sessionOk { State.reset with curCmd := some c, seqPc := .step k .issue, lifecycle := l, channelOpen := o }

/-- `Safety.settled` as a function of STATE and CHANNEL_OPEN. -/
def settledAt (l : Lifecycle) (o : Bool) : Bool :=
  settled { State.reset with lifecycle := l, channelOpen := o }

theorem sessionOk_eq_sessionAt {s : State} {c : Command} {k : Nat} {p : Phase} (hc : s.curCmd = some c)
    (hpc : s.seqPc = .step k p) : sessionOk s = sessionAt c k s.lifecycle s.channelOpen := by
  cases c <;> simp [sessionAt, sessionOk, hc, hpc, live, settled]

theorem sessionOk_eq_settledAt {s : State} (hc : s.curCmd = none) : sessionOk s = settledAt s.lifecycle s.channelOpen := by
  simp [settledAt, sessionOk, hc, settled, live]

/-- STATE after a micro-operation completes (R189, R238). -/
def lifecycleAfter (l : Lifecycle) : MicroOp → Lifecycle
  | .setState l' => l'
  | .closeLink => .closed
  | .validate _ | .openLink | .setRps _ | .write _ _ | .readBack _ _ | .powerCycle | .fresh | .readStatus _ _ | .eval
  | .setFlag _ _ | .ret _ => l

/-- CHANNEL_OPEN after a micro-operation completes (R186, R238). -/
def channelAfter (o : Bool) : MicroOp → Bool
  | .openLink => true
  | .closeLink => false
  | .validate _ | .setState _ | .setRps _ | .write _ _ | .readBack _ _ | .powerCycle | .fresh | .readStatus _ _ | .eval
  | .setFlag _ _ | .ret _ => o

/-- Between commands the channel is open in Running and Faulted, closed in Uninitialized and Closed, and STATE is no other. -/
theorem settledAt_iff {l : Lifecycle} {o : Bool} :
    settledAt l o = true ↔ (l = .running ∨ l = .faulted) ∧ o = true ∨ (l = .uninitialized ∨ l = .closed) ∧ o = false := by
  cases l <;> cases o <;> simp [settledAt, settled, live]

/-- Between SETSTATE(Configuring) and SETSTATE(Running) the session is Configuring with the channel open. -/
theorem sessionAt_configuring {c : Command} {k : Nat} {l : Lifecycle} {o : Bool} (hc : Configures c) (h₁ : 3 < k)
    (h₂ : k ≤ 27) : sessionAt c k l o = true ↔ l = .configuring ∧ o = true := by
  obtain ⟨rps, rfl | rfl⟩ := hc <;>
    simp [sessionAt, sessionOk, h₂, show ¬ k ≤ 2 by omega, show ¬ k ≤ 3 by omega]

theorem sessionAt_checkStatus {k : Nat} {l : Lifecycle} {o : Bool} :
    sessionAt .checkStatus k l o = true ↔ (l = .running ∨ l = .faulted) ∧ o = true := by
  simp [sessionAt, sessionOk, live]

/-- An admitted command finds the session its first step asks for (R232). -/
theorem sessionAt_of_accept {l : Lifecycle} {o : Bool} {c : Command} (ha : admission l c = .accept)
    (hs : settledAt l o = true) : sessionAt c 1 l o = true := by
  cases c with
  | start rps =>
    cases l <;> cases ha
    simpa [settledAt_iff, sessionAt, sessionOk] using hs
  | setVelocity _ | resetPositionCounter | checkStatus | reset _ | close =>
    cases l <;> cases ha <;> simpa [settledAt_iff, sessionAt, sessionOk, live] using hs
  | enableStallException _ | enableVelocityException _ => exact hs

/-- A micro-operation that completes leaves the session the next step asks for. -/
theorem sessionAt_succ {cfg : Config} {c : Command} {k : Nat} {op : MicroOp} {l : Lifecycle} {o : Bool}
    (hp : Placed cfg c k op) (hret : ∀ v, op ≠ .ret v) (hs : sessionAt c k l o = true) :
    sessionAt c (k + 1) (lifecycleAfter l op) (channelAfter o op) = true := by
  have htransfer : Configures c → 3 < k → k < 27 → sessionAt c (k + 1) l o = true := fun hc h₁ h₂ =>
    (sessionAt_configuring hc (by omega) (by omega)).mpr ((sessionAt_configuring hc h₁ (by omega)).mp hs)
  cases op with
  | validate rps =>
    obtain ⟨rfl, hc⟩ := hp
    cases c with
    | start _ | setVelocity _ | reset _ => exact hs
    | resetPositionCounter | checkStatus | enableStallException _ | enableVelocityException _ | close => cases hc
  | openLink =>
    obtain ⟨rfl, rps, rfl⟩ := hp
    simp_all [sessionAt, sessionOk, lifecycleAfter, channelAfter]
  | powerCycle =>
    obtain ⟨rfl, rps, rfl⟩ := hp
    exact hs
  | setState l' =>
    obtain ⟨⟨rps, rfl | rfl⟩, ⟨rfl, rfl⟩ | ⟨rfl, rfl⟩⟩ := hp <;>
      simp_all [sessionAt, sessionOk, lifecycleAfter, channelAfter]
  | setRps rps =>
    obtain ⟨-, ⟨hc, rfl⟩ | ⟨-, rfl⟩⟩ := hp
    · exact htransfer hc (by omega) (by omega)
    · exact hs
  | write reg v =>
    obtain ⟨hc, h₁, h₂⟩ | ⟨rps, rfl⟩ | rfl := hp
    · exact htransfer hc (by omega) h₂
    · exact hs
    · exact hs
  | readBack reg v =>
    obtain ⟨hc, h₁, h₂⟩ := hp
    exact htransfer hc (by omega) h₂
  | fresh | readStatus _ _ | eval => obtain rfl := hp; exact hs
  | setFlag which b => cases which <;> obtain rfl := hp <;> exact hs
  | closeLink => obtain ⟨rfl, rfl⟩ := hp; rfl
  | ret v => exact absurd rfl (hret v)

/-- A command that returns leaves a session between commands. -/
theorem settledAt_of_ret {cfg : Config} {c : Command} {k : Nat} {v : RetValue} {l : Lifecycle} {o : Bool}
    (hp : Placed cfg c k (.ret v)) (hs : sessionAt c k l o = true) : settledAt l o = true := by
  obtain ⟨rfl, -⟩ := hp
  rw [settledAt_iff]
  cases c with
  | start rps | reset rps =>
    obtain ⟨rfl, rfl⟩ : l = .running ∧ o = true := by
      simpa [microProgram, configBody, configWrites, configReadBacks, sessionAt, sessionOk] using hs
    simp
  | close =>
    obtain ⟨rfl, rfl⟩ : l = .closed ∧ o = false := by simpa [microProgram, sessionAt, sessionOk] using hs
    simp
  | setVelocity _ | resetPositionCounter | checkStatus => exact .inl (by simpa [sessionAt, sessionOk, live] using hs)
  | enableStallException _ | enableVelocityException _ => exact settledAt_iff.mp hs

/-- The errors of a read-back come after SETSTATE(Configuring) (R194). -/
theorem beforeConfiguring_of_readBack {reg : RegAddr} {v : Word} :
    ∀ e ∈ errorsRaisedBy (.readBack reg v), beforeConfiguring e = false := by
  simp [errorsRaisedBy, decodeErrors, beforeConfiguring]

/-- A read-back that fails while configuring makes STATE Faulted (R194, R220). -/
theorem stateAfterError_of_readBack {c : Command} {reg : RegAddr} {v : Word} {e : CmdError} {l : Lifecycle} (hc : Configures c)
    (he : e ∈ errorsRaisedBy (.readBack reg v)) : stateAfterError c e l = .faulted := by
  obtain ⟨rps, rfl | rfl⟩ := hc <;> simp [stateAfterError, beforeConfiguring_of_readBack e he]

theorem stateAfterError_checkStatus (e : CmdError) (l : Lifecycle) :
    stateAfterError .checkStatus e l = l ∨ stateAfterError .checkStatus e l = .faulted := by
  cases hr : resetRequiring e <;> simp [stateAfterError, hr]

/-- A command that fails leaves, by rule R220, a session between commands. -/
theorem settledAt_of_error {cfg : Config} {c : Command} {k : Nat} {op : MicroOp} {e : CmdError} {l : Lifecycle} {o : Bool}
    (hp : Placed cfg c k op) (he : e ∈ errorsRaisedBy op) (hs : sessionAt c k l o = true) :
    settledAt (stateAfterError c e l) o = true := by
  rw [settledAt_iff]
  cases op with
  | validate rps =>
    obtain ⟨rfl, hc⟩ := hp
    obtain rfl := List.mem_singleton.mp he
    cases c <;> simp_all [velocityArg, stateAfterError, beforeConfiguring, sessionAt, sessionOk, live]
  | openLink =>
    obtain ⟨rfl, rps, rfl⟩ := hp
    simp only [errorsRaisedBy, List.mem_cons, List.not_mem_nil, or_false] at he
    obtain rfl | rfl := he <;> simp_all [stateAfterError, beforeConfiguring, sessionAt, sessionOk]
  | readBack reg v =>
    obtain ⟨hc, h₁, h₂⟩ := hp
    obtain ⟨-, rfl⟩ := (sessionAt_configuring hc (by omega) (by omega)).mp hs
    exact .inl ⟨.inr (stateAfterError_of_readBack hc he), rfl⟩
  | readStatus _ _ | eval =>
    obtain rfl := hp
    obtain ⟨hl, rfl⟩ := sessionAt_checkStatus.mp hs
    obtain heq | heq := stateAfterError_checkStatus e l <;> rw [heq]
    · exact .inl ⟨hl, rfl⟩
    · exact .inl ⟨.inr rfl, rfl⟩
  | setState _ | setRps _ | write _ _ | powerCycle | fresh | setFlag _ _ | closeLink | ret _ => cases he

/-! ### The invariant, field by field -/

/-- What the timers and WAITING are in phase `p` of `op`. -/
def PhaseFits (s : State) (op : MicroOp) : Phase → Prop
  | .issue => s.settleTimer = .disarmed ∧ s.waiting = false ∧ s.readTimer = .disarmed
  | .settle => isWrite op = true ∧ s.settleTimer = .armed ∧ s.waiting = false ∧ s.readTimer = .disarmed
  | .await => isRead op = true ∧ s.settleTimer = .disarmed ∧ s.waiting = true ∧ (s.wake ≠ .none ∨ s.readTimer = .armed)

/-- `Safety.Inv` with no command in progress. -/
structure Resting (s : State) : Prop where
  curCmd : s.curCmd = none
  seqPc : s.seqPc = .idle
  settleTimer : s.settleTimer = .disarmed
  waiting : s.waiting = false
  readTimer : s.readTimer = .disarmed
  lock : s.lock = .free
  rps : validRps s.desiredRps
  session : settledAt s.lifecycle s.channelOpen = true

/-- `Safety.Inv` at phase `p` of step `k` of command `c`, whose micro-operation is `op`. -/
structure Busy (s : State) (c : Command) (k : Nat) (p : Phase) (op : MicroOp) : Prop where
  curCmd : s.curCmd = some c
  seqPc : s.seqPc = .step k p
  opAt : microOpAt s.cfg c k = some op
  phase : PhaseFits s op p
  lock : s.lock = .free
  rps : validRps s.desiredRps
  arg : ∀ rps, velocityArg c = some rps → k ≤ 1 ∨ validRps rps
  session : sessionAt c k s.lifecycle s.channelOpen = true

theorem argsOk_iff {s : State} {c : Command} {k : Nat} {p : Phase} (hc : s.curCmd = some c) (hpc : s.seqPc = .step k p) :
    argsOk s = true ↔ ∀ rps, velocityArg c = some rps → k ≤ 1 ∨ validRps rps := by
  cases c <;> simp [argsOk, hc, hpc, velocityArg]

theorem phaseOk_timerOk_iff {s : State} {op : MicroOp} {k : Nat} {p : Phase} (hpc : s.seqPc = .step k p)
    (hop : s.currentOp = some op) : phaseOk s = true ∧ timerOk s = true ↔ PhaseFits s op p := by
  simp only [phaseOk, timerOk, PhaseFits, hpc, atWrite_of_op hop, atRead_of_op hop]
  cases p <;> cases s.waiting <;> simp [and_assoc]

theorem currentOp_of_step {s : State} {c : Command} {k : Nat} {p : Phase} (hc : s.curCmd = some c) (hpc : s.seqPc = .step k p) :
    s.currentOp = microOpAt s.cfg c k := by
  simp [State.currentOp, hc, hpc]

theorem Busy.currentOp {s : State} {c : Command} {k : Nat} {p : Phase} {op : MicroOp} (h : Busy s c k p op) :
    s.currentOp = some op :=
  (currentOp_of_step h.curCmd h.seqPc).trans h.opAt

theorem Busy.placed {s : State} {c : Command} {k : Nat} {p : Phase} {op : MicroOp} (h : Busy s c k p op) :
    Placed s.cfg c k op :=
  placed_of_microOpAt h.opAt

/-- A command in progress waits in phase Await only. -/
theorem Busy.await_of_waiting {s : State} {c : Command} {k : Nat} {p : Phase} {op : MicroOp} (h : Busy s c k p op)
    (hwait : s.waiting = true) : p = .await := by
  have hphase := h.phase
  cases p <;> simp [PhaseFits, hwait] at hphase ⊢

theorem Busy.inv {s : State} {c : Command} {k : Nat} {p : Phase} {op : MicroOp} (h : Busy s c k p op) : Inv s := by
  obtain ⟨hphase, htimer⟩ := (phaseOk_timerOk_iff h.seqPc h.currentOp).mpr h.phase
  exact ⟨by simp [pcOk, h.curCmd, h.seqPc, h.opAt], hphase, htimer, h.lock, h.rps, (argsOk_iff h.curCmd h.seqPc).mpr h.arg,
    (sessionOk_eq_sessionAt h.curCmd h.seqPc).trans h.session⟩

theorem Resting.inv {s : State} (h : Resting s) : Inv s :=
  ⟨by simp [pcOk, h.curCmd, h.seqPc], by simp [phaseOk, h.seqPc, h.settleTimer, h.waiting],
    by simp [timerOk, h.readTimer, h.waiting], h.lock, h.rps, by simp [argsOk, h.curCmd],
    (sessionOk_eq_settledAt h.curCmd).trans h.session⟩

/-- A state of the invariant is at rest or at a step of a command. -/
theorem resting_or_busy {s : State} (h : Inv s) : Resting s ∨ ∃ c k p op, Busy s c k p op := by
  obtain ⟨hpcOk, hphase, htimer, hlock, hrps, hargs, hsession⟩ := h
  unfold pcOk at hpcOk
  split at hpcOk
  · next hc hpc =>
    simp only [phaseOk, hpc, timerOk, Bool.and_eq_true, Bool.or_eq_true, Bool.not_eq_true', beq_iff_eq] at hphase htimer
    obtain ⟨hsettle, hwait⟩ := hphase
    exact .inl ⟨hc, hpc, hsettle, hwait, by simpa [hwait] using htimer.1, hlock, hrps, sessionOk_eq_settledAt hc ▸ hsession⟩
  · next c k p hc hpc =>
    obtain ⟨op, hop⟩ := Option.isSome_iff_exists.mp hpcOk
    exact .inr ⟨c, k, p, op, hc, hpc, hop,
      (phaseOk_timerOk_iff hpc ((currentOp_of_step hc hpc).trans hop)).mp ⟨hphase, htimer⟩, hlock, hrps,
      (argsOk_iff hc hpc).mp hargs, sessionOk_eq_sessionAt hc hpc ▸ hsession⟩
  · cases hpcOk

/-! ### What a completed and a failed micro-operation leave -/

theorem decodeReply_error_mem {buf : List Byte} {e : CmdError} (h : decodeReply buf = .error e) : e ∈ decodeErrors := by
  unfold decodeReply at h
  split at h
  · cases h; decide
  · split at h
    · cases h; decide
    · split at h <;> cases h
      decide
  · cases h; decide

theorem readResult_error_mem {s : State} {e : CmdError} (h : s.readResult = .error e) : e ∈ .timeout :: decodeErrors := by
  unfold State.readResult at h
  split at h
  · exact List.mem_cons_of_mem _ (decodeReply_error_mem h)
  · next e' he' =>
    cases h
    unfold State.slotResult at he'
    split at he' <;> cases he'
    exact List.mem_cons_self

theorem evalStatus_mem {m : MotorStatus} {stall vel : Bool} {rps : Rat} {e : CmdError}
    (h : evalStatus m stall vel rps = some e) : e ∈ evalErrors := by
  unfold evalStatus at h
  split_ifs at h <;> cases h <;> decide

/-- A micro-operation raises the errors of its row in the table of rule R254. -/
theorem Fails.mem_errorsRaisedBy {s u : State} {op : MicroOp} {p : Phase} {e : CmdError} (h : Fails s op p u e) :
    e ∈ errorsRaisedBy op := by
  cases h with
  | validate _ | portUnavailable _ | openFailed _ | readBack _ _ => simp [errorsRaisedBy]
  | eval h => exact evalStatus_mem h
  | read hop h =>
    have hmem := readResult_error_mem h
    cases op <;> cases hop
    · exact List.mem_cons.mpr ((List.mem_cons.mp hmem).imp_right (List.mem_cons_of_mem _))
    · exact hmem

section
variable {s u : State} {op : MicroOp} {p : Phase} {e : CmdError}

theorem Completes.ne_ret (h : Completes s op p u) (v : RetValue) : op ≠ .ret v := by cases h <;> exact nofun
theorem Completes.validRps (h : Completes s op p u) : ∀ rps, op = .validate rps → validRps rps := by
  cases h with
  | validate hv => rintro _ ⟨⟩; exact hv
  | _ => exact nofun

theorem Completes.cfg (h : Completes s op p u) : u.cfg = s.cfg := by cases h <;> rfl
theorem Completes.curCmd (h : Completes s op p u) : u.curCmd = s.curCmd := by cases h <;> rfl
theorem Completes.seqPc (h : Completes s op p u) : u.seqPc = s.seqPc := by cases h <;> rfl
theorem Completes.pendingReply (h : Completes s op p u) : u.pendingReply = s.pendingReply := by cases h <;> rfl
theorem Completes.wake (h : Completes s op p u) : u.wake = s.wake := by cases h <;> rfl
theorem Completes.lifecycle (h : Completes s op p u) : u.lifecycle = lifecycleAfter s.lifecycle op := by cases h <;> rfl
theorem Completes.channelOpen (h : Completes s op p u) : u.channelOpen = channelAfter s.channelOpen op := by cases h <;> rfl

theorem Fails.curCmd (h : Fails s op p u e) : u.curCmd = s.curCmd := by cases h <;> rfl
theorem Fails.lifecycle (h : Fails s op p u e) : u.lifecycle = s.lifecycle := by cases h <;> rfl
theorem Fails.desiredRps (h : Fails s op p u e) : u.desiredRps = s.desiredRps := by cases h <;> rfl
theorem Fails.stallExcEn (h : Fails s op p u e) : u.stallExcEn = s.stallExcEn := by cases h <;> rfl
theorem Fails.velExcEn (h : Fails s op p u e) : u.velExcEn = s.velExcEn := by cases h <;> rfl
theorem Fails.channelOpen (h : Fails s op p u e) : u.channelOpen = s.channelOpen := by cases h <;> rfl
theorem Fails.pendingReply (h : Fails s op p u e) : u.pendingReply = s.pendingReply := by cases h <;> rfl
theorem Fails.wake (h : Fails s op p u e) : u.wake = s.wake := by cases h <;> rfl
theorem Fails.statusWork (h : Fails s op p u e) : u.statusWork = s.statusWork := by cases h <;> rfl

/-- A micro-operation that completes leaves LOCK Free, no wait and no timer. -/
theorem Completes.quiet (h : Completes s op p u) (hlock : s.lock = .free) (hp : PhaseFits s op p) :
    u.lock = .free ∧ PhaseFits u op .issue := by
  cases h with
  | readBack _ _ | readStatus _ =>
    obtain ⟨-, hsettle, -, -⟩ := hp
    exact ⟨rfl, hsettle, rfl, rfl⟩
  | validate _ | openLink _ | setState _ | setRps _ | powerCycle | fresh | eval _ | setStallFlag _ | setVelocityFlag _
  | closeLink _ => exact ⟨hlock, hp⟩

/-- A micro-operation that fails leaves LOCK Free, no wait and no timer. -/
theorem Fails.quiet (h : Fails s op p u e) (hlock : s.lock = .free) (hp : PhaseFits s op p) :
    u.lock = .free ∧ PhaseFits u op .issue := by
  cases h with
  | read _ _ | readBack _ _ =>
    obtain ⟨-, hsettle, -, -⟩ := hp
    exact ⟨rfl, hsettle, rfl, rfl⟩
  | validate _ | portUnavailable _ | openFailed _ | eval _ => exact ⟨hlock, hp⟩

end

/-! ### Every step keeps the invariant -/

/-- A command with a velocity argument validates it first (R183, R187). -/
theorem microOpAt_one {cfg : Config} {c : Command} {rps : Rat} (h : velocityArg c = some rps) :
    microOpAt cfg c 1 = some (.validate rps) := by
  cases c <;> cases h <;> rfl

section
variable {s u : State} {c : Command} {k : Nat} {p : Phase} {op : MicroOp} {e : CmdError}

/-- Past step 1 the velocity argument has passed VALIDATE. -/
theorem Busy.arg_succ (h : Busy s c k p op) (hval : ∀ rps, op = .validate rps → validRps rps) {rps : Rat}
    (ha : velocityArg c = some rps) : validRps rps := by
  obtain hk | hv := h.arg rps ha
  · have hop := h.opAt
    obtain rfl | rfl : k = 0 ∨ k = 1 := by omega
    · cases hop
    · exact hval rps (Option.some.inj (hop.symm.trans (microOpAt_one ha)))
  · exact hv

/-- SETRPS writes an argument that has passed VALIDATE, and no other micro-operation writes DESIRED_RPS (R33). -/
theorem Busy.rps_of_completes (h : Busy s c k p op) (hc : Completes s op p u) : validRps u.desiredRps := by
  have harg := fun {rps} => h.arg_succ hc.validRps (rps := rps)
  cases hc with
  | setRps rps =>
    obtain ⟨ha, -⟩ := h.placed
    exact harg ha
  | validate _ | openLink _ | setState _ | powerCycle | fresh | eval _ | setStallFlag _ | setVelocityFlag _ | closeLink _
  | readBack _ _ | readStatus _ => exact h.rps

/-- A micro-operation other than RET ends at the next step, in phase Issue, when what it wrote fits that step. -/
theorem Busy.advance (h : Busy s c k p op) (hret : ∀ v, op ≠ .ret v) (hval : ∀ rps, op = .validate rps → validRps rps)
    (hcfg : u.cfg = s.cfg) (hcur : u.curCmd = s.curCmd) (hpc : u.seqPc = s.seqPc) (hlock : u.lock = .free)
    (hquiet : PhaseFits u op .issue) (hrps : validRps u.desiredRps) (hl : u.lifecycle = lifecycleAfter s.lifecycle op)
    (ho : u.channelOpen = channelAfter s.channelOpen op) : Inv u.advance := by
  obtain ⟨op', hop'⟩ := microOpAt_succ h.opAt hret
  rw [State.advance_of_step (hpc.trans h.seqPc)]
  exact Busy.inv (c := c) (op := op') {
    curCmd := hcur.trans h.curCmd
    seqPc := rfl
    opAt := (congrArg (microOpAt · c (k + 1)) hcfg).trans hop'
    phase := hquiet
    lock := hlock
    rps := hrps
    arg := fun rps ha => .inr (h.arg_succ hval ha)
    session := by
      show sessionAt c (k + 1) u.lifecycle u.channelOpen = true
      rw [hl, ho]
      exact sessionAt_succ h.placed hret h.session }

theorem Busy.completes (h : Busy s c k p op) (hc : Completes s op p u) : Inv u.advance :=
  have ⟨hlock, hquiet⟩ := hc.quiet h.lock h.phase
  h.advance hc.ne_ret hc.validRps hc.cfg hc.curCmd hc.seqPc hlock hquiet (h.rps_of_completes hc) hc.lifecycle hc.channelOpen

theorem Busy.settles (h : Busy s c k .settle op) : Inv s.settleEnd := by
  obtain ⟨hw, harmed, hwait, hread⟩ := h.phase
  have heq : s.settleEnd = { s with settleTimer := .disarmed }.advance := by
    rw [State.settleEnd_of_settle h.seqPc harmed, State.advance_of_step (s := { s with settleTimer := .disarmed }) h.seqPc]
  rw [heq]
  cases op <;> cases hw
  exact h.advance nofun nofun rfl rfl rfl h.lock ⟨rfl, hwait, hread⟩ h.rps rfl rfl

theorem Busy.raises (h : Busy s c k p op) (hf : Fails s op p u e) : Resting (u.raise e) := by
  obtain ⟨hlock, hsettle, hwait, hread⟩ := hf.quiet h.lock h.phase
  refine ⟨rfl, rfl, hsettle, hwait, hread, hlock, ?_, ?_⟩
  · rw [State.raise_desiredRps, hf.desiredRps]
    exact h.rps
  · rw [State.raise_lifecycle e (hf.curCmd.trans h.curCmd), State.raise_channelOpen, hf.lifecycle, hf.channelOpen]
    exact settledAt_of_error h.placed hf.mem_errorsRaisedBy h.session

theorem Busy.returns {v : RetValue} (h : Busy s c k .issue (.ret v)) (r : CmdValue) : Resting (s.retOk r) := by
  obtain ⟨hsettle, hwait, hread⟩ := h.phase
  exact ⟨rfl, rfl, hsettle, hwait, hread, h.lock, h.rps, settledAt_of_ret h.placed h.session⟩

theorem Busy.sends (h : Busy s c k .issue op) (hw : isWrite op = true) (frame : List Byte) :
    Busy (s.issueWrite frame) c k .settle op := by
  rw [State.issueWrite_of_step frame h.seqPc]
  obtain ⟨-, hwait, hread⟩ := h.phase
  exact ⟨h.curCmd, rfl, h.opAt, ⟨hw, rfl, hwait, hread⟩, h.lock, h.rps, h.arg, h.session⟩

theorem Busy.requests (h : Busy s c k .issue op) (hr : isRead op = true) (frame : List Byte) :
    Busy (s.issueRead frame) c k .await op := by
  rw [State.issueRead_of_step frame h.seqPc]
  obtain ⟨hsettle, -, -⟩ := h.phase
  exact ⟨h.curCmd, rfl, h.opAt, ⟨hr, hsettle, rfl, .inr rfl⟩, rfl, h.rps, h.arg, h.session⟩

end

/-- A state of the invariant at phase `p` of `op` is that step of the command in progress. -/
theorem busy_of_op {s : State} {k : Nat} {p : Phase} {op : MicroOp} (h : Inv s) (hpc : s.seqPc = .step k p)
    (hop : s.currentOp = some op) : ∃ c, Busy s c k p op := by
  obtain hr | ⟨c, k', p', op', hb⟩ := resting_or_busy h
  · exact absurd (hr.seqPc.symm.trans hpc) nofun
  · cases hb.seqPc.symm.trans hpc
    cases hb.currentOp.symm.trans hop
    exact ⟨c, hb⟩

theorem RequesterMove.inv {s t : State} (h : RequesterMove s t) (hs : Inv s) : Inv t := by
  cases h with
  | stays => exact hs
  | sends hpc hop =>
    obtain ⟨c, hb⟩ := busy_of_op hs hpc hop
    exact (hb.sends rfl _).inv
  | requests hpc hop hread _ =>
    obtain ⟨c, hb⟩ := busy_of_op hs hpc hop
    exact (hb.requests hread _).inv
  | completes hpc hop hc =>
    obtain ⟨c, hb⟩ := busy_of_op hs hpc hop
    exact hb.completes hc
  | raises hpc hop hf =>
    obtain ⟨c, hb⟩ := busy_of_op hs hpc hop
    exact (hb.raises hf).inv
  | returns hpc hop =>
    obtain ⟨c, hb⟩ := busy_of_op hs hpc hop
    exact (hb.returns _).inv

/-- The port accepts a command at rest only, and its first step finds the session it asks for. -/
theorem inv_of_accept {s : State} {c : Command} (hs : Inv s) (hready : s.portReady = true)
    (hadm : admission s.lifecycle c = .accept) : Inv { s with curCmd := some c, seqPc := .step 1 .issue } := by
  obtain hr | ⟨c', _, _, _, hb⟩ := resting_or_busy hs
  · obtain ⟨op, hop⟩ : ∃ op, microOpAt s.cfg c 1 = some op := by cases c <;> exact ⟨_, rfl⟩
    exact Busy.inv (op := op) ⟨rfl, rfl, hop, ⟨hr.settleTimer, hr.waiting, hr.readTimer⟩, hr.lock, hr.rps,
      fun _ _ => .inl le_rfl, sessionAt_of_accept hadm hr.session⟩
  · exact absurd (((portReady_iff s).mp hready).1.symm.trans hb.curCmd) nofun

theorem inv_deposit {s : State} (hs : Inv s) (buf : List Byte) : Inv (s.deposit buf) := by
  obtain hr | ⟨c, k, p, op, hb⟩ := resting_or_busy hs
  · exact Resting.inv ⟨hr.curCmd, hr.seqPc, hr.settleTimer, hr.waiting, hr.readTimer, rfl, hr.rps, hr.session⟩
  · refine Busy.inv (c := c) (k := k) (p := p) (op := op)
      ⟨hb.curCmd, hb.seqPc, hb.opAt, ?_, rfl, hb.rps, hb.arg, hb.session⟩
    have hphase := hb.phase
    cases p with
    | issue | settle => exact hphase
    | await =>
      obtain ⟨hr, hsettle, hwait, -⟩ := hphase
      exact ⟨hr, hsettle, hwait, .inl (by simp [hwait])⟩

theorem inv_readTimeout {s : State} (hs : Inv s) : Inv s.readTimeout := by
  obtain heq | ⟨hwait, -, -, heq⟩ := s.readTimeout_cases <;> rw [heq]
  · exact hs
  · obtain hr | ⟨c, k, p, op, hb⟩ := resting_or_busy hs
    · exact absurd (hr.waiting.symm.trans hwait) nofun
    · refine Busy.inv (c := c) (k := k) (p := p) (op := op)
        ⟨hb.curCmd, hb.seqPc, hb.opAt, ?_, hb.lock, hb.rps, hb.arg, hb.session⟩
      obtain rfl := hb.await_of_waiting hwait
      obtain ⟨hr, hsettle, -, -⟩ := hb.phase
      exact ⟨hr, hsettle, hwait, .inl nofun⟩

theorem inv_settleEnd {s : State} (hs : Inv s) : Inv s.settleEnd := by
  by_cases hpc : ∃ k, s.seqPc = .step k .settle
  · obtain ⟨k, hpc⟩ := hpc
    obtain hr | ⟨c, k', p, op, hb⟩ := resting_or_busy hs
    · exact absurd (hr.seqPc.symm.trans hpc) nofun
    · cases hb.seqPc.symm.trans hpc
      exact hb.settles
  · rw [State.settleEnd_of_not_settle (not_exists.mp hpc)]
    exact hs

/-- Settles O47, by the moves a step can make: the invariant does not speak of the schedule, the ports or the environment. -/
theorem stepKeepsInv : Obligations.StepKeepsInv := by
  intro s t hs hstep
  have htick : Inv s.tick := hs
  cases step_move hstep with
  | idles => exact htick
  | requester _ h => exact h.inv htick
  | accepts hready hadm => exact inv_of_accept hs hready hadm
  | refuses => exact hs
  | @delivers buf rest _ _ => exact inv_deposit (s := { s.tick with rxIn := rest }) hs buf
  | readTimer _ => exact inv_readTimeout htick
  | settleTimer => exact inv_settleEnd htick

/-! ### Every step goes on -/

theorem requesterMove_total_of_issue {s : State} {k : Nat} {op : MicroOp} (hpc : s.seqPc = .step k .issue)
    (hop : s.currentOp = some op) (hlock : s.lock = .free) : ∃ t, requesterMove s = .next t := by
  have hmove := requesterMove_issue hpc hop
  cases op with
  | validate rps => rw [hmove, issueMove]; split <;> exact ⟨_, rfl⟩
  | openLink =>
    rw [hmove, issueMove, openMove]
    split
    · exact ⟨_, rfl⟩
    · next a _ _ => cases a <;> exact ⟨_, rfl⟩
  | write reg v => exact ⟨_, requesterMove_write hpc hop⟩
  | readBack reg v => exact ⟨_, requesterMove_readBack hpc hop hlock⟩
  | readStatus kind reg => exact ⟨_, requesterMove_readStatus hpc hop hlock⟩
  | eval => rw [hmove, issueMove]; split <;> exact ⟨_, rfl⟩
  | closeLink => rw [hmove, issueMove, closeMove]; split <;> exact ⟨_, rfl⟩
  | setState _ | setRps _ | powerCycle | fresh | setFlag _ _ | ret _ => exact ⟨_, hmove⟩

theorem wakeMove_total {s : State} {op : MicroOp} (hr : isRead op = true) : ∃ t, wakeMove op s = .next t := by
  cases op <;> cases hr <;> simp only [wakeMove] <;> split <;> exact ⟨_, rfl⟩

theorem requesterMove_total {s : State} (hs : Inv s) : ∃ t, requesterMove s = .next t := by
  obtain hr | ⟨c, k, p, op, hb⟩ := resting_or_busy hs
  · exact ⟨s, by simp [requesterMove, hr.seqPc]⟩
  · have hphase := hb.phase
    cases p with
    | issue => exact requesterMove_total_of_issue hb.seqPc hb.currentOp hb.lock
    | settle => exact ⟨s, by simp [requesterMove, hb.seqPc, hb.currentOp]⟩
    | await =>
      obtain ⟨hread, -⟩ := hphase
      rw [requesterMove_await hb.seqPc hb.currentOp]
      exact wakeMove_total hread

theorem submit_total (c : Command) (s : State) : ∃ t, submit c s = .next t := by
  unfold submit
  split
  · split <;> exact ⟨_, rfl⟩
  · exact ⟨_, rfl⟩

theorem callerMove_total (s : State) : ∃ t, callerMove s = .next t := by
  unfold callerMove
  split
  · exact ⟨_, rfl⟩
  · split
    · rw [exec_commandInstr]; exact submit_total _ _
    · exact ⟨_, rfl⟩

/-- Settles O48: only the requester's move can stop, and under the invariant its micro-operation has a move in its phase. -/
theorem stepNeverStops : Obligations.StepNeverStops := by
  intro s hs
  have htick : Inv s.tick := hs
  cases ha : nextAgent s <;> rw [step_of_agent ha]
  case caller => exact callerMove_total s.tick
  case requester => exact requesterMove_total htick
  case delivery =>
    obtain h | ⟨_, _, -, h⟩ := deliveryMove_cases s.tick
    · exact ⟨_, h⟩
    · exact ⟨_, h⟩
  case readTimer => exact ⟨_, rfl⟩
  case settleTimer => exact ⟨_, rfl⟩

/-! ### Who changes STATE -/

/-- The rows of rule R181's table that change STATE. -/
inductive Transition : Command → Lifecycle → Lifecycle → Prop where
  | startConfigures {rps : Rat} : Transition (.start rps) .uninitialized .configuring
  | resetConfigures {rps : Rat} {l : Lifecycle} (h : l = .running ∨ l = .faulted) : Transition (.reset rps) l .configuring
  | configured {c : Command} (h : Configures c) : Transition c .configuring .running
  | configurationFails {c : Command} (h : Configures c) : Transition c .configuring .faulted
  | statusFails : Transition .checkStatus .running .faulted
  | closes {l : Lifecycle} (h : l = .running ∨ l = .faulted) : Transition .close l .closed

/-- SETSTATE and CLOSE are the micro-operations that write STATE. -/
theorem transition_of_completes {cfg : Config} {c : Command} {k : Nat} {op : MicroOp} {l : Lifecycle} {o : Bool}
    (hp : Placed cfg c k op) (hs : sessionAt c k l o = true) (hne : lifecycleAfter l op ≠ l) :
    Transition c l (lifecycleAfter l op) := by
  cases op with
  | setState l' =>
    obtain ⟨hc, ⟨rfl, rfl⟩ | ⟨rfl, rfl⟩⟩ := hp
    · obtain ⟨rps, rfl | rfl⟩ := hc
      · obtain ⟨rfl, -⟩ : l = .uninitialized ∧ o = true := by simpa [sessionAt, sessionOk] using hs
        exact .startConfigures
      · obtain ⟨hl, -⟩ : (l = .running ∨ l = .faulted) ∧ o = true := by simpa [sessionAt, sessionOk, live] using hs
        exact .resetConfigures hl
    · obtain ⟨rfl, -⟩ := (sessionAt_configuring hc (by omega) le_rfl).mp hs
      exact .configured hc
  | closeLink =>
    obtain ⟨rfl, rfl⟩ := hp
    obtain ⟨hl, -⟩ : (l = .running ∨ l = .faulted) ∧ o = true := by simpa [sessionAt, sessionOk, live] using hs
    exact .closes hl
  | validate _ | openLink | setRps _ | write _ _ | readBack _ _ | powerCycle | fresh | readStatus _ _ | eval | setFlag _ _
  | ret _ => exact absurd rfl hne

/-- A read-back that fails while configuring, and an error of `checkStatus` in Running, make STATE Faulted (R194, R220). -/
theorem transition_of_error {cfg : Config} {c : Command} {k : Nat} {op : MicroOp} {e : CmdError} {l : Lifecycle} {o : Bool}
    (hp : Placed cfg c k op) (he : e ∈ errorsRaisedBy op) (hs : sessionAt c k l o = true) (hne : stateAfterError c e l ≠ l) :
    Transition c l (stateAfterError c e l) := by
  cases op with
  | validate rps =>
    obtain rfl := List.mem_singleton.mp he
    cases c <;> exact absurd rfl hne
  | openLink =>
    obtain ⟨-, rps, rfl⟩ := hp
    simp only [errorsRaisedBy, List.mem_cons, List.not_mem_nil, or_false] at he
    obtain rfl | rfl := he <;> exact absurd rfl hne
  | readBack reg v =>
    obtain ⟨hc, h₁, h₂⟩ := hp
    obtain ⟨rfl, -⟩ := (sessionAt_configuring hc (by omega) (by omega)).mp hs
    rw [stateAfterError_of_readBack hc he]
    exact .configurationFails hc
  | readStatus _ _ | eval =>
    obtain rfl := hp
    obtain heq | heq := stateAfterError_checkStatus e l
    · exact absurd heq hne
    · rw [heq] at hne ⊢
      obtain ⟨hl, -⟩ := sessionAt_checkStatus.mp hs
      obtain rfl := hl.resolve_right hne.symm
      exact .statusFails
  | setState _ | setRps _ | write _ _ | powerCycle | fresh | setFlag _ _ | closeLink | ret _ => cases he

/-- A move of the requester that changes STATE is a row of the table. -/
theorem RequesterMove.transition {s t : State} (h : RequesterMove s t) (hs : Inv s) (hne : t.lifecycle ≠ s.lifecycle) :
    ∃ c, s.curCmd = some c ∧ Transition c s.lifecycle t.lifecycle := by
  cases h with
  | stays | sends _ _ | requests _ _ _ _ | returns _ _ => exact absurd (by simp) hne
  | completes hpc hop hc =>
    obtain ⟨c, hb⟩ := busy_of_op hs hpc hop
    rw [State.advance_lifecycle, hc.lifecycle] at hne ⊢
    exact ⟨c, hb.curCmd, transition_of_completes hb.placed hb.session hne⟩
  | raises hpc hop hf =>
    obtain ⟨c, hb⟩ := busy_of_op hs hpc hop
    rw [State.raise_lifecycle _ (hf.curCmd.trans hb.curCmd), hf.lifecycle] at hne ⊢
    exact ⟨c, hb.curCmd, transition_of_error hb.placed hf.mem_errorsRaisedBy hb.session hne⟩

/-- A step that changes STATE is a row of the table. -/
theorem step_transition {s t : State} (hs : Inv s) (hstep : step s = .next t) (hne : t.lifecycle ≠ s.lifecycle) :
    ∃ c, s.curCmd = some c ∧ Transition c s.lifecycle t.lifecycle := by
  cases step_move hstep with
  | requester _ h => exact h.transition (s := s.tick) hs hne
  | idles | accepts _ _ | refuses | delivers _ _ | readTimer _ | settleTimer => exact absurd (by simp) hne

/-- Settles O49, by the rows of `Transition`. -/
theorem lifecycleTransitions : Obligations.LifecycleTransitions := by
  intro s t hs hstep hne
  obtain ⟨c, hc, h⟩ := step_transition hs hstep hne
  rw [hc]
  generalize s.lifecycle = l, t.lifecycle = l' at h
  cases h with
  | startConfigures => exact .inl ⟨rfl, rfl⟩
  | resetConfigures hl => exact .inl ⟨hl, rfl⟩
  | configured hcfg => obtain ⟨rps, rfl | rfl⟩ := hcfg <;> exact .inr ⟨rfl, .inl rfl⟩
  | configurationFails hcfg => obtain ⟨rps, rfl | rfl⟩ := hcfg <;> exact .inr ⟨rfl, .inr rfl⟩
  | statusFails => exact ⟨rfl, rfl⟩
  | closes hl => exact ⟨hl, rfl⟩

/-! ### Who writes the registers -/

/-- The requester writes DESIRED_RPS and CHANNEL_OPEN at the micro-operations that name them, the enables in their commands. -/
theorem RequesterMove.controlWriters {s t : State} (h : RequesterMove s t) :
    (t.desiredRps ≠ s.desiredRps → s.currentOp = some (.setRps t.desiredRps)) ∧
    (t.stallExcEn ≠ s.stallExcEn → s.curCmd = some (.enableStallException t.stallExcEn)) ∧
    (t.velExcEn ≠ s.velExcEn → s.curCmd = some (.enableVelocityException t.velExcEn)) ∧
    (t.channelOpen ≠ s.channelOpen →
      s.currentOp = some .openLink ∧ t.channelOpen = true ∨ s.currentOp = some .closeLink ∧ t.channelOpen = false) := by
  cases h with
  | stays | sends _ _ | requests _ _ _ _ | returns _ _ => simp
  | raises _ _ h => simp [h.desiredRps, h.stallExcEn, h.velExcEn, h.channelOpen]
  | completes _ hop h =>
    obtain ⟨c, k, p, hc, -, hat⟩ := currentOp_eq_some hop
    have hp := placed_of_microOpAt hat
    cases h with
    | setStallFlag b | setVelocityFlag b => obtain rfl := hp; simp [hc]
    | validate _ | openLink _ | setState _ | setRps _ | powerCycle | fresh | eval _ | closeLink _ | readBack _ _
    | readStatus _ => simp [hop]

/-- Settles O53: no other agent writes a control register. -/
theorem controlRegisterWriters : Obligations.ControlRegisterWriters := by
  intro s t hstep
  cases step_move hstep with
  | requester _ h => exact h.controlWriters (s := s.tick)
  | idles | accepts _ _ | refuses | delivers _ _ | readTimer _ | settleTimer => simp

/-- The requester writes the slot and WAKE at step A, WAITING at step A and step B, STATUS_WORK at FRESH and RS. -/
theorem RequesterMove.readUnitWriters {s t : State} (h : RequesterMove s t) :
    (t.pendingReply ≠ s.pendingReply → atRead s = true ∧ t.pendingReply = .empty) ∧
    (t.waiting ≠ s.waiting → atRead s = true) ∧
    (t.wake ≠ s.wake → atRead s = true ∧ t.wake = .none) ∧
    (t.statusWork ≠ s.statusWork → s.currentOp = some .fresh ∨ ∃ kind r, s.currentOp = some (.readStatus kind r)) := by
  cases h with
  | stays | sends _ _ | returns _ _ => simp
  | requests _ hop hread _ => simp [atRead_of_op hop, hread]
  | raises _ hop h =>
    refine ⟨by simp [h.pendingReply], ?_, by simp [h.wake], by simp [h.statusWork]⟩
    rw [atRead_of_op hop]
    cases h with
    | read hread _ => exact fun _ => hread
    | readBack _ _ => exact fun _ => rfl
    | validate _ | portUnavailable _ | openFailed _ | eval _ => exact fun hne => absurd rfl hne
  | completes _ hop h =>
    refine ⟨by simp [h.pendingReply], ?_, by simp [h.wake], ?_⟩
    · rw [State.advance_waiting, atRead_of_op hop]
      cases h with
      | readBack _ _ | readStatus _ => exact fun _ => rfl
      | _ => exact fun hne => absurd rfl hne
    · rw [State.advance_statusWork]
      cases h with
      | fresh => exact fun _ => .inl hop
      | readStatus _ => exact fun _ => .inr ⟨_, _, hop⟩
      | _ => exact fun hne => absurd rfl hne

/-- Settles O54: the other writers are the delivery and the read timer, which changes WAKE during a wait only. -/
theorem readUnitWriters : Obligations.ReadUnitWriters := by
  intro s t hstep
  cases step_move hstep with
  | requester ha h =>
    obtain ⟨hslot, hwait, hwake, hwork⟩ := h.readUnitWriters
    exact ⟨fun hne => .inr ⟨ha, hslot hne⟩, fun hne => ⟨ha, hwait hne⟩, fun hne => .inl ⟨ha, hwake hne⟩,
      fun hne => ⟨ha, hwork hne⟩⟩
  | delivers ha hrx =>
    refine ⟨by simp [ha, hrx], by simp, fun hne => .inr (.inl ?_), by simp⟩
    cases hwait : s.waiting with
    | false => exact absurd (by simp [hwait]) hne
    | true => exact ⟨ha, rfl, by simp [hwait]⟩
  | readTimer ha =>
    obtain heq | ⟨hwait, -, -, heq⟩ := s.tick.readTimeout_cases <;> rw [heq]
    · simp
    · exact ⟨absurd rfl, absurd rfl, fun _ => .inr (.inr ⟨ha, hwait, rfl⟩), absurd rfl⟩
  | idles | accepts _ _ | refuses | settleTimer => simp

/-! ### From Closed -/

/-- A W and a read stand in commands that hold the channel (R232): STATE is not Closed there. -/
theorem not_closed_of_transfer {cfg : Config} {c : Command} {k : Nat} {op : MicroOp} {l : Lifecycle} {o : Bool}
    (hp : Placed cfg c k op) (hop : isWrite op = true ∨ isRead op = true) (hs : sessionAt c k l o = true) : l ≠ .closed := by
  rintro rfl
  have hconf : Configures c → 4 < k → k < 27 → False := fun hc h₁ h₂ => by
    obtain ⟨h, -⟩ := (sessionAt_configuring hc (by omega) (by omega)).mp hs
    cases h
  cases op with
  | write reg v =>
    obtain ⟨hc, h₁, h₂⟩ | ⟨rps, rfl⟩ | rfl := hp
    · exact hconf hc h₁ h₂
    · cases hs
    · cases hs
  | readBack reg v =>
    obtain ⟨hc, h₁, h₂⟩ := hp
    exact hconf hc h₁ h₂
  | readStatus kind reg => obtain rfl := hp; cases hs
  | validate _ | openLink | setState _ | setRps _ | powerCycle | fresh | eval | setFlag _ _ | closeLink | ret _ =>
    simp [isWrite, isRead] at hop

/-- A Closed state of the invariant stands at no W and at no read. -/
theorem no_transfer_of_closed {s : State} {op : MicroOp} (hs : Inv s) (hl : s.lifecycle = .closed)
    (hop : s.currentOp = some op) : ¬ (isWrite op = true ∨ isRead op = true) := by
  intro ht
  obtain ⟨c, k, p, -, hpc, -⟩ := currentOp_eq_some hop
  obtain ⟨c, hb⟩ := busy_of_op hs hpc hop
  exact not_closed_of_transfer hb.placed ht hb.session hl

theorem step_closed {s t : State} (hs : Inv s) (hl : s.lifecycle = .closed) (hstep : step s = .next t) :
    t.lifecycle = .closed := by
  by_contra hne
  obtain ⟨c, -, h⟩ := step_transition hs hstep fun heq => hne (heq.trans hl)
  rw [hl] at h
  generalize t.lifecycle = l' at h
  cases h with
  | resetConfigures hlive | closes hlive => exact hlive.elim nofun nofun

/-- From Closed a step sends no frame. -/
theorem step_closed_tx {s t : State} (hs : Inv s) (hl : s.lifecycle = .closed) (hstep : step s = .next t) {frame : List Byte}
    (hf : Output.tx frame ∈ t.outputs) : Output.tx frame ∈ s.outputs := by
  obtain h | ⟨_, _, _, -, -, hop, -⟩ | ⟨_, _, _, _, -, -, hop | hop, -⟩ | ⟨_, -, -, h | ⟨_, h⟩⟩ | ⟨_, -, -, h⟩ | ⟨_, h⟩ :=
    outputsOfAStep s t hstep
  case inr.inl => exact absurd (.inl rfl) (no_transfer_of_closed hs hl hop)
  case inr.inr.inl.inl => exact absurd (.inr rfl) (no_transfer_of_closed hs hl hop)
  case inr.inr.inl.inr => exact absurd (.inr rfl) (no_transfer_of_closed hs hl hop)
  all_goals simpa [h] using hf

/-- Settles O56, by induction over the run. -/
theorem closedIsTerminal : Obligations.ClosedIsTerminal := by
  have hrun := steps_induction (R := fun s t => Inv s → s.lifecycle = .closed →
    Inv t ∧ t.lifecycle = .closed ∧ ∀ frame, Output.tx frame ∈ t.outputs → Output.tx frame ∈ s.outputs)
    (fun s hs hl => ⟨hs, hl, fun _ => id⟩)
    fun s u t hstep ih hs hl => by
      obtain ⟨ht, hlt, htx⟩ := ih (stepKeepsInv s u hs hstep) (step_closed hs hl hstep)
      exact ⟨ht, hlt, fun frame hf => step_closed_tx hs hl hstep (htx frame hf)⟩
  exact fun n s t hs hl h => hrun n s t h hs hl

/-! ### STATUS_WORK outside `checkStatus` -/

/-- `s` with STATUS_WORK replaced. -/
def setWork (w : MotorStatus) (s : State) : State :=
  { s with statusWork := w }

/-- An outcome with its next state mapped. -/
def mapNext (f : State → State) : Host.Outcome State Fault Refusal → Host.Outcome State Fault Refusal
  | .next s => .next (f s)
  | .fault r => .fault r
  | .refused r => .refused r

theorem mapNext_ite (f : State → State) (c : Prop) [Decidable c] (a b : Host.Outcome State Fault Refusal) :
    mapNext f (if c then a else b) = if c then mapNext f a else mapNext f b :=
  apply_ite (mapNext f) c a b

section
variable (w : MotorStatus) (s : State)

theorem setWork_advance : (setWork w s).advance = setWork w s.advance := by
  cases hpc : s.seqPc <;> simp [State.advance, setWork, hpc]

theorem setWork_setPhase (p : Phase) : (setWork w s).setPhase p = setWork w (s.setPhase p) := by
  cases hpc : s.seqPc <;> simp [State.setPhase, setWork, hpc]

theorem setWork_issueWrite (f : List Byte) : (setWork w s).issueWrite f = setWork w (s.issueWrite f) :=
  congrArg (fun t : State => { t with settleTimer := .armed }) (setWork_setPhase w (s.emit (.tx f)) .settle)

theorem setWork_issueRead (f : List Byte) : (setWork w s).issueRead f = setWork w (s.issueRead f) := by
  cases hpc : s.seqPc <;> simp [State.issueRead, State.setPhase, State.emit, setWork, hpc]

theorem setWork_settleEnd : (setWork w s).settleEnd = setWork w s.settleEnd := by
  cases hpc : s.seqPc with
  | idle => simp [State.settleEnd, setWork, hpc]
  | step k p => cases p <;> cases ht : s.settleTimer <;> simp [State.settleEnd, State.advance, setWork, hpc, ht]

theorem setWork_readTimeout : (setWork w s).readTimeout = setWork w s.readTimeout := by
  unfold State.readTimeout
  rw [apply_ite (setWork w)]
  rfl

theorem setWork_cfg : (setWork w s).cfg = s.cfg := rfl
theorem setWork_portReady : (setWork w s).portReady = s.portReady := rfl
theorem setWork_lifecycle : (setWork w s).lifecycle = s.lifecycle := rfl

theorem submit_setWork (c : Command) : submit c (setWork w s) = mapNext (setWork w) (submit c s) := by
  unfold submit
  rw [setWork_portReady, setWork_lifecycle, mapNext_ite]
  cases admission s.lifecycle c <;> rfl

theorem callerMove_of_offer {c : Command} {rest : List Command} (h : s.cmdIn = c :: rest) :
    callerMove s = if s.portReady then submit c { s with cmdIn := rest } else .next s := by
  simp [callerMove, h]

theorem callerMove_setWork : callerMove (setWork w s) = mapNext (setWork w) (callerMove s) := by
  cases hc : s.cmdIn with
  | nil => simp [callerMove, setWork, hc, mapNext]
  | cons c rest =>
    rw [callerMove_of_offer s hc, callerMove_of_offer (setWork w s) hc, mapNext_ite, ← submit_setWork]
    rfl

theorem deliveryMove_setWork : deliveryMove (setWork w s) = mapNext (setWork w) (deliveryMove s) := by
  cases hrx : s.rxIn with
  | nil => simp [deliveryMove, setWork, hrx, mapNext]
  | cons buf rest =>
    by_cases hl : s.lock = .free
    · rw [deliveryMove_of_free hrx hl, deliveryMove_of_free (s := setWork w s) hrx hl]
      rfl
    · simp [deliveryMove, setWork, hrx, hl, mapNext]

/-- The micro-operation reads or writes STATUS_WORK (R43). -/
def usesWork : MicroOp → Bool
  | .fresh | .readStatus _ _ | .eval | .ret .statusWork => true
  | .validate _ | .openLink | .setState _ | .setRps _ | .write _ _ | .readBack _ _ | .powerCycle | .setFlag _ _ | .closeLink
  | .ret .unit | .ret .closeResult => false

/-- STATUS_WORK is `checkStatus`'s own (R43, R211). -/
theorem checkStatus_of_usesWork {cfg : Config} {c : Command} {k : Nat} {op : MicroOp} (hp : Placed cfg c k op)
    (hu : usesWork op = true) : c = .checkStatus := by
  cases op with
  | fresh | readStatus _ _ | eval => exact hp
  | ret v =>
    obtain ⟨-, hv⟩ := hp
    cases v <;> cases hu
    exact hv rfl
  | validate _ | openLink | setState _ | setRps _ | write _ _ | readBack _ _ | powerCycle | setFlag _ _ | closeLink => cases hu

theorem transmitWrite_setWork (f : List Byte) :
    transmitWrite f (setWork w s) = mapNext (setWork w) (transmitWrite f s) := by
  unfold transmitWrite
  rw [mapNext_ite, setWork_issueWrite]
  rfl

theorem transmitRead_setWork (f : List Byte) :
    transmitRead f (setWork w s) = mapNext (setWork w) (transmitRead f s) := by
  unfold transmitRead
  rw [mapNext_ite, mapNext_ite, setWork_issueRead]
  rfl

theorem openMove_setWork : openMove (setWork w s) = mapNext (setWork w) (openMove s) := by
  unfold openMove
  cases ha : s.openAnswers with
  | nil => simp [setWork, ha, mapNext]
  | cons a rest =>
    simp only [setWork, ha]
    cases a
    · have h := setWork_advance w { { s with openAnswers := rest }.emit (.linkOpen .ok) with channelOpen := true }
      exact congrArg Host.Outcome.next h
    · rfl
    · rfl

theorem closeMove_setWork : closeMove (setWork w s) = mapNext (setWork w) (closeMove s) := by
  unfold closeMove
  cases hb : s.closeAnswers with
  | nil => simp [setWork, hb, mapNext]
  | cons b rest =>
    simp only [setWork, hb]
    have h := setWork_advance w
      { { s with closeAnswers := rest }.emit (.linkClose b) with channelOpen := false, lifecycle := .closed, closeResult := b }
    exact congrArg Host.Outcome.next h

theorem issueMove_setWork {op : MicroOp} (hu : usesWork op = false) :
    issueMove op (setWork w s) = mapNext (setWork w) (issueMove op s) := by
  cases op with
  | validate rps =>
    simp only [issueMove, mapNext_ite, setWork_advance]
    rfl
  | openLink => exact openMove_setWork w s
  | closeLink => exact closeMove_setWork w s
  | write reg v => simp only [issueMove, exec_writeInstr, setWork_cfg, transmitWrite_setWork]
  | readBack reg v => simp only [issueMove, exec_readInstr, setWork_cfg, transmitRead_setWork]
  | setState l => exact congrArg Host.Outcome.next (setWork_advance w { s with lifecycle := l })
  | setRps rps => exact congrArg Host.Outcome.next (setWork_advance w { s with desiredRps := rps })
  | powerCycle => exact congrArg Host.Outcome.next (setWork_advance w s)
  | setFlag which b =>
    cases which
    · exact congrArg Host.Outcome.next (setWork_advance w { s with stallExcEn := b })
    · exact congrArg Host.Outcome.next (setWork_advance w { s with velExcEn := b })
  | ret v => cases v <;> cases hu <;> rfl
  | fresh | readStatus _ _ | eval => cases hu

theorem readBackEnd_setWork (expected : Word) (r : Except CmdError ValidatedReply) :
    readBackEnd expected r (setWork w s) = setWork w (readBackEnd expected r s) := by
  cases r with
  | error e => rfl
  | ok v =>
    simp only [readBackEnd, setWork_advance, apply_ite (setWork w)]
    rfl

theorem wakeMove_setWork {op : MicroOp} (hu : usesWork op = false) :
    wakeMove op (setWork w s) = mapNext (setWork w) (wakeMove op s) := by
  cases op with
  | readBack reg expected =>
    have hend : readBackEnd expected (setWork w s).readResult (setWork w s).endWait = _ :=
      readBackEnd_setWork w s.endWait expected s.readResult
    simp only [wakeMove, mapNext_ite]
    rw [hend]
    rfl
  | readStatus _ _ => cases hu
  | validate _ | openLink | setState _ | setRps _ | write _ _ | powerCycle | fresh | eval | setFlag _ _ | closeLink
  | ret _ => rfl

theorem requesterMove_setWork (hu : ∀ op, s.currentOp = some op → usesWork op = false) :
    requesterMove (setWork w s) = mapNext (setWork w) (requesterMove s) := by
  cases hpc : s.seqPc with
  | idle => simp [requesterMove, setWork, hpc, mapNext]
  | step k p =>
    cases hop : s.currentOp with
    | none =>
      have hop' : (setWork w s).currentOp = none := hop
      have hpc' : (setWork w s).seqPc = .step k p := hpc
      simp [requesterMove, hpc, hpc', hop, hop', mapNext]
    | some op =>
      cases p with
      | issue =>
        rw [requesterMove_issue hpc hop, requesterMove_issue (s := setWork w s) hpc hop]
        exact issueMove_setWork w s (hu op hop)
      | settle =>
        have hop' : (setWork w s).currentOp = some op := hop
        have hpc' : (setWork w s).seqPc = .step k .settle := hpc
        simp [requesterMove, hpc, hpc', hop, hop', mapNext]
      | await =>
        rw [requesterMove_await hpc hop, requesterMove_await (s := setWork w s) hpc hop]
        exact wakeMove_setWork w s (hu op hop)

/-- Outside `checkStatus` the step commutes with a replacement of STATUS_WORK. -/
theorem step_setWork (hc : s.curCmd ≠ some .checkStatus) : step (setWork w s) = mapNext (setWork w) (step s) := by
  have hu : ∀ op, s.currentOp = some op → usesWork op = false := fun op hop => by
    obtain ⟨c, k, p, hcur, -, hat⟩ := currentOp_eq_some hop
    by_contra hne
    exact hc (checkStatus_of_usesWork (placed_of_microOpAt hat) (Bool.of_not_eq_false hne) ▸ hcur)
  have hagent : nextAgent (setWork w s) = nextAgent s := rfl
  rw [step, step, hagent]
  show agentMove (nextAgent s) (setWork w s.tick) = _
  cases nextAgent s with
  | caller => exact callerMove_setWork w s.tick
  | requester => exact requesterMove_setWork w s.tick hu
  | delivery => exact deliveryMove_setWork w s.tick
  | readTimer => exact congrArg Host.Outcome.next (setWork_readTimeout w s.tick)
  | settleTimer => exact congrArg Host.Outcome.next (setWork_settleEnd w s.tick)

end

/-- Settles O57, from `step_setWork`. -/
theorem statusWorkUnobservable : Obligations.StatusWorkUnobservable := by
  intro s t w hc hstep
  have h := step_setWork w s hc
  rw [hstep] at h
  exact h

end Sys2Proof.Proofs
end

section
/-! SUPPORT. Proofs of the obligations of 20_memory.md: the frames the micro-operation at SEQ_PC does not issue, and the phases in
which the requester waits. -/

namespace Sys2Proof.Proofs

open Sys2Proof Sys2Proof.Machine Sys2Proof.Safety

/-! ### Frames not issued (log 13) -/

/-- Every write form transmits its own bytes (R190). -/
theorem exec_of_mem_writeForms {slave : Byte} {reg : RegAddr} {d : Word} {crc : Byte} {i : Instr}
    (hi : i ∈ writeForms slave reg d crc) (s : State) : exec i s = transmitWrite (encode i) s :=
  (List.map_inj_left (f := (exec · s)) (g := fun i => transmitWrite (encode i) s)).mp rfl i hi

/-- Every read form transmits its own bytes (R141). -/
theorem exec_of_mem_readForms {slave : Byte} {reg : RegAddr} {crc : Byte} {i : Instr} (hi : i ∈ readForms slave reg crc)
    (s : State) : exec i s = transmitRead (encode i) s :=
  (List.map_inj_left (f := (exec · s)) (g := fun i => transmitRead (encode i) s)).mp rfl i hi

theorem transmitWrite_of_not_issued {f : List Byte} {s : State} (h : s.issuedWrite ≠ some f) :
    transmitWrite f s = .refused .frameNotIssued :=
  if_neg h

theorem transmitRead_of_not_issued {f : List Byte} {s : State} (h : s.issuedRead ≠ some f) :
    transmitRead f s = .refused .frameNotIssued :=
  if_neg h

/-- Settles O15: were a form's frame the issued one, the sequencer would stand at its micro-operation in phase Issue. -/
theorem framesNotIssuedAreRefused : Obligations.FramesNotIssuedAreRefused := by
  intro s slave reg d crc
  refine ⟨fun i hi hne => ?_, fun i hi hne => ?_⟩
  · rw [exec_of_mem_writeForms hi]
    refine transmitWrite_of_not_issued fun hf => ?_
    obtain ⟨k, r, v, hpc, hop, hframe⟩ := issuedWrite_eq_some hf
    exact hne k r v hpc hop hframe
  · rw [exec_of_mem_readForms hi]
    refine transmitRead_of_not_issued fun hf => ?_
    obtain ⟨k, r, hpc, hframe, ⟨v, hop⟩ | ⟨kind, hop⟩⟩ := issuedRead_eq_some hf
    · exact hne k r v .velocity hpc (.inl hop) hframe
    · exact hne k r 0 kind hpc (.inr hop) hframe

/-! ### The requester's waits -/

theorem requesterMove_settle {s : State} {k : Nat} {op : MicroOp} (hpc : s.seqPc = .step k .settle)
    (hop : s.currentOp = some op) : requesterMove s = .next s := by
  simp [requesterMove, hpc, hop]

/-- A wait that nothing has ended does not enable step B (R146). -/
theorem wakeReady_of_wake_none {s : State} (hw : s.wake = .none) : s.wakeReady = false := by
  simp [State.wakeReady, hw]

/-- A read has no move before step B is enabled (R146). -/
theorem wakeMove_of_not_ready {s : State} {op : MicroOp} (hread : isRead op = true) (hw : s.wakeReady = false) :
    wakeMove op s = .next s := by
  cases op with
  | readBack _ _ | readStatus _ _ => simp [wakeMove, hw]
  | validate _ | openLink | setState _ | setRps _ | write _ _ | powerCycle | fresh | eval | setFlag _ _ | closeLink | ret _ =>
    cases hread

/-- Settles O24: in a settle the requester has no move, and in a wait step B is not enabled. -/
theorem requesterWaits : Obligations.RequesterWaits := by
  intro s k op hop
  refine ⟨fun hpc => requesterMove_settle hpc hop, fun r v kind hpc hread hw => ?_⟩
  have hread' : isRead op = true := by obtain rfl | rfl := hread <;> rfl
  rw [requesterMove_await hpc hop]
  exact wakeMove_of_not_ready hread' (wakeReady_of_wake_none hw)

end Sys2Proof.Proofs
end

section
/-! SUPPORT. Proofs of the obligations of 30_encoding.md: the row, the port and the well-formedness of the instruction that a
frame's fields choose, and the byte strings that are frames. -/

namespace Sys2Proof.Proofs

open Sys2Proof Sys2Proof.Machine Sys2Proof.Safety

/-! ### The row of a frame's fields -/

/-- Fields that name no per-register W row are the generic one's (R86). -/
theorem writeInstr_of_not_named {reg : RegAddr} (h : reg ∉ namedWriteRegs) (slave : Byte) (d : Word) (crc : Byte) :
    writeInstr slave reg d crc = .w slave reg d crc := by
  simp only [namedWriteRegs, List.mem_cons, List.not_mem_nil, or_false, not_or] at h
  simp only [writeInstr, h, if_false]

/-- Fields that name no per-register R row are the generic one's (R86). -/
theorem readInstr_of_not_named {reg : RegAddr} (h : reg ∉ namedReadRegs) (slave crc : Byte) :
    readInstr slave reg crc = .r slave reg crc := by
  simp only [namedReadRegs, List.mem_cons, List.not_mem_nil, or_false, not_or] at h
  simp only [readInstr, h, if_false]

/-- Fields that name no per-register Y row are the generic one's (R86). -/
theorem replyInstr_of_not_named {regByte : Byte} (h : regByte ∉ namedReplyRegs) (d : Word) (crc : Byte) :
    replyInstr regByte d crc = .y regByte d crc := by
  simp only [namedReplyRegs, List.mem_cons, List.not_mem_nil, or_false, not_or] at h
  simp only [replyInstr, h, if_false]

/-- The well-formedness of a generic row: the right CRC, and a register without a row of its own. -/
theorem wf_generic_iff {α : Type} [BEq α] [LawfulBEq α] {crc crc' : Byte} {reg : α} {named : List α} :
    (crc == crc' && !named.contains reg) = true ↔ crc = crc' ∧ reg ∉ named := by
  simp

theorem port_writeInstr (slave : Byte) (reg : RegAddr) (d : Word) (crc : Byte) : (writeInstr slave reg d crc).port = .tx := by
  unfold writeInstr
  iterate 17 refine instr_ite (P := fun i => i.port = .tx) (fun _ => rfl) ?_
  rfl

theorem port_readInstr (slave : Byte) (reg : RegAddr) (crc : Byte) : (readInstr slave reg crc).port = .tx := by
  unfold readInstr
  iterate 6 refine instr_ite (P := fun i => i.port = .tx) (fun _ => rfl) ?_
  rfl

theorem port_replyInstr (regByte : Byte) (d : Word) (crc : Byte) : (replyInstr regByte d crc).port = .rx := by
  unfold replyInstr
  iterate 2 refine instr_ite (P := fun i => i.port = .rx) (fun _ => rfl) ?_
  rfl

/-- The W row of some fields is well formed exactly when its CRC byte is that of the fields (R113). -/
theorem wf_writeInstr_iff (slave : Byte) (reg : RegAddr) (d : Word) (crc : Byte) :
    WellFormed (writeInstr slave reg d crc) ↔ crc = writeCrc slave reg d := by
  by_cases h : reg ∈ namedWriteRegs
  · have hwf : (writeInstr slave reg d crc).wf = (crc == writeCrc slave reg d) :=
      (List.map_inj_left (f := fun r => (writeInstr slave r d crc).wf) (g := fun r => crc == writeCrc slave r d)).mp rfl reg h
    rw [WellFormed, hwf, beq_iff_eq]
  · rw [writeInstr_of_not_named h]
    exact wf_generic_iff.trans (and_iff_left h)

/-- The R row of some fields is well formed exactly when its CRC byte is that of the fields (R113). -/
theorem wf_readInstr_iff (slave : Byte) (reg : RegAddr) (crc : Byte) :
    WellFormed (readInstr slave reg crc) ↔ crc = readCrc slave reg := by
  by_cases h : reg ∈ namedReadRegs
  · have hwf : (readInstr slave reg crc).wf = (crc == readCrc slave reg) :=
      (List.map_inj_left (f := fun r => (readInstr slave r crc).wf) (g := fun r => crc == readCrc slave r)).mp rfl reg h
    rw [WellFormed, hwf, beq_iff_eq]
  · rw [readInstr_of_not_named h]
    exact wf_generic_iff.trans (and_iff_left h)

/-- The Y row of some fields is well formed exactly when its CRC byte is that of the fields (R113). -/
theorem wf_replyInstr_iff (regByte : Byte) (d : Word) (crc : Byte) :
    WellFormed (replyInstr regByte d crc) ↔ crc = replyCrc regByte d := by
  by_cases h : regByte ∈ namedReplyRegs
  · have hwf : (replyInstr regByte d crc).wf = (crc == replyCrc regByte d) :=
      (List.map_inj_left (f := fun r => (replyInstr r d crc).wf) (g := fun r => crc == replyCrc r d)).mp rfl regByte h
    rw [WellFormed, hwf, beq_iff_eq]
  · rw [replyInstr_of_not_named h]
    exact wf_generic_iff.trans (and_iff_left h)

/-! ### Decoding the encoding -/

/-- Settles O2. The decoder answers the row of the frame's fields, and that row is the instruction: for a per-register row
because its register chooses it, for a generic row because well-formedness keeps its register from choosing another. -/
theorem decodeEncode : Obligations.DecodeEncode := by
  intro i hwf hport
  cases i with
  | w slave reg d crc =>
    rw [← writeInstr_of_not_named (wf_generic_iff.mp hwf).2, port_writeInstr, encode_writeInstr, decode_writeFrame]
  | r slave reg crc =>
    rw [← readInstr_of_not_named (wf_generic_iff.mp hwf).2, port_readInstr, encode_readInstr, decode_readFrame]
  | y regByte d crc =>
    rw [← replyInstr_of_not_named (wf_generic_iff.mp hwf).2, port_replyInstr, encode_replyInstr, decode_replyFrame]
  | wGconf slave d crc | wChopconf slave d crc | wCoolconf slave d crc | wIholdIrun slave d crc | wTpowerdown slave d crc
  | wTpwmthrs slave d crc | wXtarget slave d crc | wXactual slave d crc | wVstart slave d crc | wA1 slave d crc
  | wV1 slave d crc | wAmax slave d crc | wVmax slave d crc | wDmax slave d crc | wD1 slave d crc | wVstop slave d crc
  | wRampmode slave d crc => exact decode_writeFrame slave _ d crc
  | rGconf slave crc | rChopconf slave crc | rXactual slave crc | rRampmode slave crc | rVactual slave crc
  | rDrvStatus slave crc => exact decode_readFrame slave _ crc
  | yVactual d crc | yDrvStatus d crc => exact decode_replyFrame _ d crc
  | start _ | setVelocity _ | resetPositionCounter | checkStatus | reset _ | enableStallException _ | enableVelocityException _
  | close => exact absurd rfl hport

/-! ### Encoding the decoded -/

/-- The last byte of a frame is the CRC of the bytes before it (R113). -/
theorem getLast?_frame_iff {header : List Byte} {crc : Byte} :
    (header ++ [crc]).getLast? = some (crcOf (header ++ [crc]).dropLast) ↔ crc = crcOf header := by
  rw [List.getLast?_concat, List.dropLast_concat, Option.some_inj]

/-- Settles O3: what a port decodes is a frame, to the row of its fields. -/
theorem encodeDecode : Obligations.EncodeDecode := by
  intro p bytes i h
  cases p with
  | cmd => cases h
  | tx =>
    obtain ⟨slave, reg, d, crc, rfl, rfl⟩ | ⟨slave, reg, crc, rfl, rfl⟩ := decode_tx_eq_ok h
    · exact ⟨encode_writeInstr .., port_writeInstr .., (wf_writeInstr_iff ..).trans getLast?_frame_iff.symm⟩
    · exact ⟨encode_readInstr .., port_readInstr .., (wf_readInstr_iff ..).trans getLast?_frame_iff.symm⟩
  | rx =>
    obtain ⟨regByte, d, crc, rfl, rfl⟩ := decode_rx_eq_ok h
    exact ⟨encode_replyInstr .., port_replyInstr .., (wf_replyInstr_iff ..).trans getLast?_frame_iff.symm⟩

/-! ### The strings a port decodes -/

theorem exists_bytes_of_length_eight : ∀ {bytes : List Byte}, bytes.length = 8 →
    ∃ b0 b1 b2 b3 b4 b5 b6 b7, bytes = [b0, b1, b2, b3, b4, b5, b6, b7]
  | [_, _, _, _, _, _, _, _], _ => ⟨_, _, _, _, _, _, _, _, rfl⟩

/-- Eight bytes that start with SYNC and have the write bit set are a W frame (R81). -/
theorem decode_tx_of_write_format {bytes : List Byte} (hsync : bytes.head? = some 0x05) (hlen : bytes.length = 8)
    (hbit : (bytes.getD 2 0).getLsbD 7 = true) : ∃ i, decode .tx bytes = .ok i := by
  obtain ⟨b0, b1, b2, b3, b4, b5, b6, b7, rfl⟩ := exists_bytes_of_length_eight hlen
  have hb0 : b0 = Const.sync := Option.some.inj hsync
  exact ⟨_, (if_neg (not_not_intro hb0)).trans (if_pos hbit)⟩

/-- Four bytes that start with SYNC and have the write bit clear are an R frame (R82). -/
theorem decode_tx_of_read_format {bytes : List Byte} (hsync : bytes.head? = some 0x05) (hlen : bytes.length = 4)
    (hbit : (bytes.getD 2 0).getLsbD 7 = false) : ∃ i, decode .tx bytes = .ok i := by
  obtain ⟨b0, b1, b2, b3, rfl⟩ := List.length_eq_four.mp hlen
  have hb0 : b0 = Const.sync := Option.some.inj hsync
  exact ⟨_, (if_neg (not_not_intro hb0)).trans (if_neg (Bool.eq_false_iff.mp hbit))⟩

/-- Eight bytes that start with SYNC and MASTER_ADDRESS are a Y frame (R83). -/
theorem decode_rx_of_reply_format {bytes : List Byte} (hlen : bytes.length = 8) (hsync : bytes.head? = some 0x05)
    (hmaster : bytes.getD 1 0 = 0xFF) : ∃ i, decode .rx bytes = .ok i := by
  obtain ⟨b0, b1, b2, b3, b4, b5, b6, b7, rfl⟩ := exists_bytes_of_length_eight hlen
  have hb0 : b0 = Const.sync := Option.some.inj hsync
  exact ⟨_, (if_neg (not_not_intro hb0)).trans (if_neg (not_not_intro hmaster))⟩

/-- Settles O4: what a port decodes is a frame and so has its format, and a string of that format is a frame. -/
theorem decodesExactlyTheFormats : Obligations.DecodesExactlyTheFormats := by
  refine fun bytes => ⟨⟨fun ⟨i, h⟩ => ?_, ?_⟩, ⟨fun ⟨i, h⟩ => ?_, ?_⟩, fun i h => by cases h⟩
  · obtain ⟨slave, reg, d, crc, rfl, -⟩ | ⟨slave, reg, crc, rfl, -⟩ := decode_tx_eq_ok h
    · obtain ⟨hsync, hlen, hbit, -⟩ := Laws.FrameShape.writeFrame_shape slave reg d crc
      exact ⟨hsync, .inl ⟨hlen, hbit⟩⟩
    · obtain ⟨hsync, hlen, hbit, -⟩ := Laws.FrameShape.readFrame_shape slave reg crc
      exact ⟨hsync, .inr ⟨hlen, hbit⟩⟩
  · rintro ⟨hsync, ⟨hlen, hbit⟩ | ⟨hlen, hbit⟩⟩
    · exact decode_tx_of_write_format hsync hlen hbit
    · exact decode_tx_of_read_format hsync hlen hbit
  · obtain ⟨regByte, d, crc, rfl, -⟩ := decode_rx_eq_ok h
    exact ⟨rfl, rfl, rfl⟩
  · rintro ⟨hlen, hsync, hmaster⟩
    exact decode_rx_of_reply_format hlen hsync hmaster

/-! ### Words of the spec -/

/-- Settles O1, by running the decoder on the seven words. -/
theorem decodeSpecWords : Obligations.DecodeSpecWords := by
  unfold Obligations.DecodeSpecWords
  decide

end Sys2Proof.Proofs
end

section
/-! SUPPORT. Proofs of the obligations of 40_crc.md: the map of rule R115 and its powers, the CRC of a list in terms of it, and
what a change of the list does to its CRC. -/

namespace Sys2Proof.Proofs

open Sys2Proof Sys2Proof.Machine

/-! ### The map of rule R115: linear and one-to-one -/

theorem crcShift_of_clear {x : Byte} (h : x.getLsbD 7 = false) : crcShift x = x <<< 1 :=
  if_neg (Bool.eq_false_iff.mp h)

theorem crcShift_of_set {x : Byte} (h : x.getLsbD 7 = true) : crcShift x = x <<< 1 ^^^ Const.crcPoly :=
  if_pos h

@[simp] theorem crcShift_zero : crcShift 0#8 = 0#8 := rfl

theorem crcShift_xor (x y : Byte) : crcShift (x ^^^ y) = crcShift x ^^^ crcShift y := by
  have hbit : (x ^^^ y).getLsbD 7 = (x.getLsbD 7 ^^ y.getLsbD 7) := BitVec.getLsbD_xor
  have hshift : (x ^^^ y) <<< 1 = x <<< 1 ^^^ y <<< 1 := BitVec.shiftLeft_xor_distrib x y 1
  cases hx : x.getLsbD 7 <;> cases hy : y.getLsbD 7 <;> simp only [hx, hy] at hbit
  · rw [crcShift_of_clear hbit, crcShift_of_clear hx, crcShift_of_clear hy, hshift]
  · rw [crcShift_of_set hbit, crcShift_of_clear hx, crcShift_of_set hy, hshift]; ac_rfl
  · rw [crcShift_of_set hbit, crcShift_of_set hx, crcShift_of_clear hy, hshift]; ac_rfl
  · rw [crcShift_of_clear hbit, crcShift_of_set hx, crcShift_of_set hy, hshift]
    calc x <<< 1 ^^^ y <<< 1 = x <<< 1 ^^^ y <<< 1 ^^^ (Const.crcPoly ^^^ Const.crcPoly) := by
          rw [BitVec.xor_self, BitVec.xor_zero]
      _ = _ := by ac_rfl

/-- The polynomial's constant term keeps the bit that is shifted out. -/
theorem getLsbD_zero_crcShift (x : Byte) : (crcShift x).getLsbD 0 = x.getLsbD 7 := by
  cases h : x.getLsbD 7
  · rw [crcShift_of_clear h]; simp
  · rw [crcShift_of_set h]; simp [Const.crcPoly]

theorem eq_zero_of_crcShift_eq_zero {x : Byte} (h : crcShift x = 0#8) : x = 0#8 := by
  have htop : x.getLsbD 7 = false := by rw [← getLsbD_zero_crcShift, h]; rfl
  have hshift : x <<< 1 = 0#8 := (crcShift_of_clear htop).symm.trans h
  ext i hi
  obtain hlt | rfl := Nat.lt_succ_iff_lt_or_eq.mp hi
  · simpa [show i + 1 < 8 by omega] using congrArg (BitVec.getLsbD · (i + 1)) hshift
  · simpa using htop

theorem crcShift_injective : Function.Injective crcShift := fun x y h => by
  refine BitVec.xor_eq_zero_iff.mp (eq_zero_of_crcShift_eq_zero ?_)
  rw [crcShift_xor, h, BitVec.xor_self]

/-! ### Its powers -/

theorem iterate_crcShift_eq_zero_iff {n : Nat} {x : Byte} : crcShift^[n] x = 0#8 ↔ x = 0#8 :=
  (crcShift_injective.iterate n).eq_iff' (Function.iterate_fixed crcShift_zero n)

theorem iterate_crcShift_xor (n : Nat) (x y : Byte) : crcShift^[n] (x ^^^ y) = crcShift^[n] x ^^^ crcShift^[n] y :=
  Function.Semiconj₂.iterate crcShift_xor n x y

/-- As long as the bits shifted out are zeros, the powers of the map are plain shifts. -/
theorem iterate_crcShift_ushiftRight (n : Nat) (x : Byte) : crcShift^[n] (x >>> n) = x >>> n <<< n := by
  induction n generalizing x with
  | zero => simp
  | succ n ih =>
    have hclear : (x >>> (n + 1) <<< n).getLsbD 7 = false := by
      simpa using fun hn : n ≤ 7 => BitVec.getLsbD_of_ge x (n + 1 + (7 - n)) (by omega)
    rw [Function.iterate_succ_apply', Nat.add_comm n 1, BitVec.shiftRight_add, ih, ← BitVec.shiftRight_add,
      Nat.add_comm 1 n, crcShift_of_clear hclear, ← BitVec.shiftLeft_add]

theorem shift8_eq_iterate (x : Byte) : shift8 x = crcShift^[8] x := rfl

theorem shift8_xor (x y : Byte) : shift8 (x ^^^ y) = shift8 x ^^^ shift8 y :=
  iterate_crcShift_xor 8 x y

theorem shift8_injective : Function.Injective shift8 :=
  crcShift_injective.iterate 8

theorem shift8_eq_zero_iff {x : Byte} : shift8 x = 0#8 ↔ x = 0#8 :=
  shift8_injective.eq_iff' rfl

/-! ### The loop of rule R110 -/

/-- The loop's test is the top bit of the state, with `i` bits of the data shifted into it (R115). -/
theorem crcIter_eq (d c : Byte) {i : Nat} (hi : i < 8) :
    crcIter d c i = if (c ^^^ d <<< i).getLsbD 7 then c <<< 1 ^^^ Const.crcPoly else c <<< 1 := by
  have hbit : (c ^^^ d <<< i).getLsbD 7 = (c.getLsbD 7 ^^ d.getLsbD (7 - i)) := by
    rw [BitVec.getLsbD_xor, BitVec.getLsbD_shiftLeft]
    simp [Nat.le_of_lt_succ hi]
  refine if_congr ?_ rfl rfl
  change (c &&& BitVec.twoPow 8 7) ^^^ _ ≠ 0 ↔ _
  rw [hbit, BitVec.and_twoPow]
  cases c.getLsbD 7 <;> cases d.getLsbD (7 - i) <;> decide

theorem crcIter_xor (d c : Byte) {i : Nat} (hi : i < 8) :
    crcIter d c i ^^^ d <<< (i + 1) = crcShift (c ^^^ d <<< i) := by
  have hshift : (c ^^^ d <<< i) <<< 1 = c <<< 1 ^^^ d <<< (i + 1) := by
    rw [BitVec.shiftLeft_xor_distrib, ← BitVec.shiftLeft_add]
  rw [crcIter_eq d c hi, crcShift, hshift]
  split
  · ac_rfl
  · rfl

theorem foldl_crcIter_xor (d c : Byte) {n : Nat} (hn : n ≤ 8) :
    (List.range n).foldl (crcIter d) c ^^^ d <<< n = crcShift^[n] (c ^^^ d) := by
  induction n with
  | zero => simp
  | succ n ih =>
    rw [List.range_succ, List.foldl_concat, crcIter_xor d _ hn, ih (Nat.le_of_succ_le hn), Function.iterate_succ_apply']

theorem nextCrc_eq_shift8 (c d : Byte) : nextCrc c d = shift8 (c ^^^ d) := by
  have h := foldl_crcIter_xor d c (le_refl 8)
  rwa [BitVec.shiftLeft_eq_zero (le_refl 8), BitVec.xor_zero] at h

/-- Settles O6, by the loop's invariant and by running the check value. -/
theorem crcEquivalentForm : Obligations.CrcEquivalentForm :=
  ⟨nextCrc_eq_shift8, by decide +kernel⟩

/-! ### The CRC of a list -/

theorem crcOf_append (f g : List Byte) : crcOf (f ++ g) = g.foldl nextCrc (crcOf f) :=
  List.foldl_append

theorem nextCrc_eq_zero_iff {c d : Byte} : nextCrc c d = 0#8 ↔ c = d := by
  rw [nextCrc_eq_shift8, shift8_eq_zero_iff, BitVec.xor_eq_zero_iff]

theorem nextCrc_left_injective (d : Byte) : Function.Injective (nextCrc · d) := fun c c' h => by
  simpa [nextCrc_eq_shift8, shift8_injective.eq_iff] using h

/-- The bytes that follow keep two different states apart. -/
theorem foldl_nextCrc_injective (f : List Byte) : Function.Injective (f.foldl nextCrc) := by
  induction f with
  | nil => exact Function.injective_id
  | cons d f ih => exact ih.comp (nextCrc_left_injective d)

/-- Settles O7: the appended byte's step gives 0 exactly on equal operands. -/
theorem crcResidue : Obligations.CrcResidue := by
  have residue (f : List Byte) (b : Byte) : crcOf (f ++ [b]) = 0#8 ↔ crcOf f = b := by
    rw [crcOf_append, List.foldl_cons, List.foldl_nil, nextCrc_eq_zero_iff]
  exact fun f => ⟨(residue f _).mpr rfl, residue f⟩

/-! ### Changed bytes (R116) -/

theorem xor_eq_left_iff {x e : Byte} : x ^^^ e = x ↔ e = 0#8 := by
  simpa only [BitVec.xor_zero] using BitVec.xor_right_inj (y := 0#8) x

theorem nextCrc_xor_right (c x e : Byte) : nextCrc c (x ^^^ e) = nextCrc c x ^^^ shift8 e := by
  rw [nextCrc_eq_shift8, nextCrc_eq_shift8, ← shift8_xor, BitVec.xor_assoc]

theorem nextCrc_xor_eq_iff (c x e : Byte) : nextCrc c (x ^^^ e) = nextCrc c x ↔ e = 0#8 := by
  rw [nextCrc_xor_right, xor_eq_left_iff, shift8_eq_zero_iff]

/-- A change of two neighbouring bytes is missed only when the first byte's step turns its change into the second's. -/
theorem nextCrc_nextCrc_xor_eq_iff (c x y hi lo : Byte) :
    nextCrc (nextCrc c (x ^^^ hi)) (y ^^^ lo) = nextCrc (nextCrc c x) y ↔ shift8 hi ^^^ lo = 0#8 := by
  have hsplit : nextCrc c (x ^^^ hi) ^^^ (y ^^^ lo) = nextCrc c x ^^^ y ^^^ (shift8 hi ^^^ lo) := by
    rw [nextCrc_xor_right]; ac_rfl
  rw [nextCrc_eq_shift8 _ (y ^^^ lo), nextCrc_eq_shift8 _ y, shift8_injective.eq_iff, hsplit, xor_eq_left_iff]

/-- What follows a change does not hide it. -/
theorem crcOf_change_eq_iff (before after mid mid' : List Byte) :
    crcOf (before ++ mid' ++ after) = crcOf (before ++ mid ++ after) ↔
      mid'.foldl nextCrc (crcOf before) = mid.foldl nextCrc (crcOf before) := by
  simp only [crcOf_append, (foldl_nextCrc_injective after).eq_iff]

/-! ### Bursts over two bytes -/

theorem burst_high {k : Nat} (hk : k ≤ 8) (e : Byte) : ((e.setWidth 16) <<< k).extractLsb' 8 8 = e >>> (8 - k) := by
  ext i hi
  have hlow : ¬ 8 + i < k := by omega
  have hindex : 8 + i - k = 8 - k + i := by omega
  simp [hlow, hindex, show 8 + i < 16 by omega]

theorem burst_low (k : Nat) (e : Byte) : ((e.setWidth 16) <<< k).extractLsb' 0 8 = e <<< k := by
  rw [← BitVec.setWidth_eq_extractLsb' (by decide), BitVec.setWidth_shiftLeft_of_le (by decide),
    BitVec.setWidth_setWidth_of_le _ (by decide), BitVec.setWidth_eq]

/-- The low bits cleared, and the `k` high bits cleared: the two parts of a burst that the two bytes carry. -/
theorem high_xor_low (k : Nat) (e : Byte) : e >>> (8 - k) <<< (8 - k) ^^^ e <<< k >>> k = e := by
  ext i hi
  by_cases h : i < 8 - k
  · simp [h, show k + i < 8 by omega]
  · simp [h, show ¬ k + i < 8 by omega, show 8 - k + (i - (8 - k)) = i by omega, hi]

theorem shiftLeft_ushiftRight_shiftLeft (k : Nat) (e : Byte) : e <<< k >>> k <<< k = e <<< k := by
  ext i hi
  by_cases h : i < k
  · simp [h]
  · simp [h, show k + (i - k) < 8 by omega]

/-- The remainder of a burst is its pattern moved by `k` powers of the map. -/
theorem shift8_high_xor_low {k : Nat} (hk : k ≤ 8) (e : Byte) : shift8 (e >>> (8 - k)) ^^^ e <<< k = crcShift^[k] e := by
  have hhigh : shift8 (e >>> (8 - k)) = crcShift^[k] (e >>> (8 - k) <<< (8 - k)) := by
    rw [← iterate_crcShift_ushiftRight, ← Function.iterate_add_apply, Nat.add_sub_cancel' hk, shift8_eq_iterate]
  have hlow : e <<< k = crcShift^[k] (e <<< k >>> k) := by
    rw [iterate_crcShift_ushiftRight, shiftLeft_ushiftRight_shiftLeft]
  calc shift8 (e >>> (8 - k)) ^^^ e <<< k
      = crcShift^[k] (e >>> (8 - k) <<< (8 - k) ^^^ e <<< k >>> k) := by rw [iterate_crcShift_xor, ← hhigh, ← hlow]
    _ = crcShift^[k] e := by rw [high_xor_low]

/-- Settles O8: the step is one-to-one in its byte, and the map of rule R115 takes no burst to 0. -/
theorem crcDetectsBursts : Obligations.CrcDetectsBursts := by
  refine ⟨fun before after x e he h => he ?_, fun before after x y e k he hk h => he ?_⟩
  · rwa [crcOf_change_eq_iff, List.foldl_cons, List.foldl_cons, List.foldl_nil, List.foldl_nil, nextCrc_xor_eq_iff] at h
  · simp only [crcOf_change_eq_iff, List.foldl_cons, List.foldl_nil, nextCrc_nextCrc_xor_eq_iff] at h
    rw [burst_high hk, burst_low, shift8_high_xor_low hk] at h
    exact iterate_crcShift_eq_zero_iff.mp h

end Sys2Proof.Proofs
end

section
/-! SUPPORT. Proofs of the obligations of 41_codec.md: the bytes the encoders build, the checks of the reply decoder, and what a
changed byte of a made reply decodes to. -/

namespace Sys2Proof.Proofs

open Sys2Proof Sys2Proof.Machine

/-! ### The encoders -/

/-- An encoder runs on the register address a byte holds, and refuses a byte with bit 7 set (R123). -/
theorem map_regAddr? {α : Type} (enc : RegAddr → α) (regByte : Byte) :
    (regAddr? regByte).map enc = if regByte.getLsbD 7 then none else some (enc (regByte.setWidth 7)) :=
  apply_ite (Option.map enc) _ _ _

/-- Settles O5: the frames are the builders' bytes, and the domain check decides both encoders. -/
theorem encodersBuildTheFrames : Obligations.EncodersBuildTheFrames :=
  ⟨fun _ _ _ => rfl, fun _ _ => rfl, fun _ _ _ => map_regAddr? _ _, fun _ _ => map_regAddr? _ _⟩

/-! ### The checks of the reply decoder (R126) -/

theorem decodeReply_of_length {buf : List Byte} (hne : buf.length ≠ 0) (hlen : buf.length ≠ 8) :
    decodeReply buf = .error .wrongLength := by
  unfold decodeReply
  split
  · exact absurd rfl hne
  · exact absurd rfl hlen
  · rfl

/-- Settles O9: on eight bytes both sides make the same checks of the same bytes, and another length is decided before them. -/
theorem decodeReplyChecks : Obligations.DecodeReplyChecks := by
  intro buf
  by_cases hlen : buf.length = 8
  · obtain ⟨b0, b1, b2, b3, b4, b5, b6, b7, rfl⟩ := exists_bytes_of_length_eight hlen
    rfl
  · by_cases hempty : buf.length = 0
    · rw [if_pos hempty, List.eq_nil_of_length_eq_zero hempty]
      rfl
    · rw [if_neg hempty, if_pos hlen, decodeReply_of_length hempty hlen]

theorem decodeReply_of_header {buf : List Byte} (hlen : buf.length = 8) (hheader : buf.getD 0 0 ≠ 0x05 ∨ buf.getD 1 0 ≠ 0xFF) :
    decodeReply buf = .error .badSyncOrAddress := by
  rw [decodeReplyChecks, if_neg (by omega), if_neg (not_not_intro hlen), if_pos hheader]

/-- The CRC check as a test of the residue of the whole frame (R116(c)). -/
theorem decodeReply_of_residue {buf : List Byte} (hlen : buf.length = 8) (hsync : buf.getD 0 0 = 0x05)
    (hmaster : buf.getD 1 0 = 0xFF) (hresidue : crcOf buf ≠ 0x00) : decodeReply buf = .error .crcMismatch := by
  obtain ⟨b0, b1, b2, b3, b4, b5, b6, b7, rfl⟩ := exists_bytes_of_length_eight hlen
  have hcrc : crcOf [b0, b1, b2, b3, b4, b5, b6] ≠ b7 := fun h => hresidue (((crcResidue _).2 b7).mpr h)
  exact (if_neg (not_or.mpr ⟨not_not_intro hsync, not_not_intro hmaster⟩)).trans (if_pos hcrc)

/-! ### Made replies (R133) -/

/-- A different byte at one place changes the CRC (R116(b)). -/
theorem crcOf_set_ne {f : List Byte} {n : Nat} {b : Byte} (hn : n < f.length) (hb : b ≠ f[n]) : crcOf (f.set n b) ≠ crcOf f := by
  have hbyte : f[n] ^^^ (f[n] ^^^ b) = b := by rw [← BitVec.xor_assoc, BitVec.xor_self, BitVec.zero_xor]
  have hset : f.set n b = f.take n ++ [f[n] ^^^ (f[n] ^^^ b)] ++ f.drop (n + 1) := by
    rw [hbyte, List.append_assoc, List.singleton_append, List.set_eq_take_append_cons_drop, if_pos hn]
  have hself : f.take n ++ [f[n]] ++ f.drop (n + 1) = f := by simp
  have hdiff : f[n] ^^^ b ≠ 0 := fun h => hb (BitVec.xor_eq_zero_iff.mp h).symm
  have hcrc := crcDetectsBursts.1 (f.take n) (f.drop (n + 1)) f[n] _ hdiff
  rwa [← hset, hself] at hcrc

/-- Every check passes as the reply is built, and `u32` undoes `bytes4` (`u32_bytes4`). -/
theorem decodeReply_mkReply (r : Byte) (d : Word) : decodeReply (mkReply r d) = .ok { regByte := r, data := d } := by
  simp [decodeReply, mkReply, replyFrame, replyCrc, replyHeader, bytes4]

theorem crcOf_mkReply (r : Byte) (d : Word) : crcOf (mkReply r d) = 0x00 :=
  (crcResidue (replyHeader r d)).1

/-- Settles O10: a change of byte 0 or 1 fails the check of the header, and a later one leaves a residue. -/
theorem replyRoundTripAndMutation : Obligations.ReplyRoundTripAndMutation := by
  refine fun r d => ⟨rfl, decodeReply_mkReply r d, fun n b hn hb => ?_⟩
  match n with
  | 0 => exact decodeReply_of_header rfl (.inl hb)
  | 1 => exact decodeReply_of_header rfl (.inr hb)
  | n + 2 =>
    rw [List.getD_eq_getElem _ _ hn] at hb
    rw [if_neg (by omega)]
    exact decodeReply_of_residue List.length_set rfl rfl (crcOf_mkReply r d ▸ crcOf_set_ne hn hb)

end Sys2Proof.Proofs
end

section
/-! SUPPORT. Proofs of the obligations of 42_coordinator.md: step A, the deliveries and expiries of a wait, step B of the two
reads, and the `checkStatus` whose first wait expires. -/

namespace Sys2Proof.Proofs

open Sys2Proof Sys2Proof.Machine Sys2Proof.Safety

/-! ### The read transaction unit with LOCK Free (log 16) -/

theorem issueRead_of_free {s : State} {k : Nat} {p : Phase} (frame : List Byte) (hpc : s.seqPc = .step k p)
    (hl : s.lock = .free) :
    s.issueRead frame =
      { s with pendingReply := .empty, outputs := s.outputs ++ [.tx frame], waiting := true, wake := .none,
               readTimer := .armed, seqPc := .step k .await } := by
  rw [State.issueRead_of_step frame hpc, ← hl]

theorem deposit_of_free {s : State} (buf : List Byte) (hl : s.lock = .free) :
    s.deposit buf = { s with pendingReply := .full buf, wake := if s.waiting = true then .signalled else s.wake } := by
  rw [State.deposit, ← hl]

theorem endWait_of_free {s : State} (hl : s.lock = .free) :
    s.endWait = { s with waiting := false, readTimer := .disarmed } := by
  rw [State.endWait, ← hl]

/-! ### Step A -/

/-- The request of the read at SEQ_PC in phase Issue is the frame the sequencer issues. -/
theorem issuedRead_of_read {s : State} {k : Nat} {r : RegAddr} {v : Word} {kind : StatusKind} (hpc : s.seqPc = .step k .issue)
    (hop : s.currentOp = some (.readBack r v) ∨ s.currentOp = some (.readStatus kind r)) :
    s.issuedRead = some (encodeRead s.cfg.slaveAddress r) := by
  obtain hop | hop := hop <;> simp [State.issuedRead, hpc, hop]

/-- Settles O16: the form's frame is the issued one, and with LOCK Free it goes out as step A. -/
theorem readFramesStartTheRead : Obligations.ReadFramesStartTheRead := by
  intro s k r v kind slave reg crc i hi hpc hop hframe hl
  rw [exec_of_mem_readForms hi, hframe, transmitRead_of_issued (issuedRead_of_read hpc hop) hl, issueRead_of_free _ hpc hl]

/-! ### Deliveries -/

/-- Every reply form is received as its own bytes (R145). -/
theorem exec_of_mem_replyForms {regByte : Byte} {d : Word} {crc : Byte} {i : Instr} (hi : i ∈ replyForms regByte d crc)
    (s : State) : exec i s = receive (encode i) s :=
  (List.map_inj_left (f := (exec · s)) (g := fun i => receive (encode i) s)).mp rfl i hi

/-- Settles O18: a reply form is received, and with LOCK Free that is the deposit. -/
theorem replyFramesAreDeposited : Obligations.ReplyFramesAreDeposited := by
  intro s regByte d crc i hi hl
  rw [exec_of_mem_replyForms hi, receive_of_free hl, deposit_of_free _ hl]

/-- Settles O19: with LOCK Free the delivery's move is the deposit, whatever the decoder says of the buffer. -/
theorem anyBufferIsDeposited : Obligations.AnyBufferIsDeposited := by
  intro s buf rest hrx hl
  rw [agentMove, deliveryMove_of_free hrx hl, deposit_of_free (s := { s with rxIn := rest }) buf hl]

/-! ### LOCK held -/

theorem transmitRead_of_held {f : List Byte} {s : State} (h : s.issuedRead = some f) (hl : s.lock ≠ .free) :
    transmitRead f s = .next s :=
  (if_pos h).trans (if_neg hl)

theorem receive_of_held {s : State} (buf : List Byte) (hl : s.lock ≠ .free) : receive buf s = .next s :=
  if_neg hl

theorem deliveryMove_of_held {s : State} (hl : s.lock ≠ .free) : deliveryMove s = .next s := by
  unfold deliveryMove
  split
  · rfl
  · exact if_neg hl

/-- Settles O17: step A, a reply form and the delivery's move each ask for LOCK. -/
theorem heldLockDelaysFrames : Obligations.HeldLockDelaysFrames := by
  intro s hl
  refine ⟨fun k r v kind slave reg crc i hi hpc hop hframe => ?_, fun regByte d crc i hi => ?_, deliveryMove_of_held hl⟩
  · rw [exec_of_mem_readForms hi, hframe, transmitRead_of_held (issuedRead_of_read hpc hop) hl]
  · rw [exec_of_mem_replyForms hi, receive_of_held _ hl]

/-! ### The read-wait timer -/

theorem readTimeout_of_no_wait {s : State} (h : s.waiting = false ∨ s.wake ≠ .none ∨ s.readTimer = .disarmed) :
    s.readTimeout = s := by
  obtain heq | ⟨hwait, hwake, htimer, -⟩ := s.readTimeout_cases
  · exact heq
  · simp [hwait, hwake, htimer] at h

/-- Settles O20, from the two laws of `readTimeout`. -/
theorem readWaitExpires : Obligations.ReadWaitExpires :=
  fun _ => ⟨fun hwait hwake htimer => congrArg Host.Outcome.next (State.readTimeout_of_wait hwait hwake htimer),
    fun h => congrArg Host.Outcome.next (readTimeout_of_no_wait h)⟩

/-! ### The events of a wait -/

/-- The requester is in its wait: WAITING is set, LOCK Free, and the wait has ended or its timer can still end it. -/
def InWait (s : State) : Prop :=
  s.waiting = true ∧ s.lock = .free ∧ (s.wake ≠ .none ∨ s.readTimer = .armed)

theorem wakeReady_iff (s : State) : s.wakeReady = true ↔ s.waiting = true ∧ s.wake ≠ .none ∧ s.lock = .free := by
  simp [State.wakeReady, and_assoc]

theorem inWait_issueRead (s : State) (frame : List Byte) : InWait (s.issueRead frame) :=
  ⟨by simp, by simp, by simp⟩

theorem inWait_of_wakeReady {s : State} (h : s.wakeReady = true) : InWait s := by
  obtain ⟨hwait, hwake, hl⟩ := (wakeReady_iff s).mp h
  exact ⟨hwait, hl, .inl hwake⟩

/-- One delivery or one expiry ends the wait (R145, R147). -/
theorem wakeReady_waitEvent {s : State} (h : InWait s) (e : Option (List Byte)) : (waitEvent s e).wakeReady = true := by
  obtain ⟨hwait, hl, hends⟩ := h
  rw [wakeReady_iff]
  cases e with
  | some buf => simp [waitEvent, hwait]
  | none =>
    refine ⟨by simpa [waitEvent] using hwait, ?_, by simpa [waitEvent] using hl⟩
    obtain heq | ⟨-, -, -, heq⟩ := s.readTimeout_cases
    · by_cases hwake : s.wake = .none
      · simp [waitEvent, State.readTimeout_of_wait hwait hwake (hends.resolve_left (not_not_intro hwake))]
      · simpa [waitEvent, heq] using hwake
    · simp [waitEvent, heq]

/-- Step B stays enabled through later events. -/
theorem wakeReady_foldl_waitEvent {s : State} (h : s.wakeReady = true) (events : List (Option (List Byte))) :
    (events.foldl waitEvent s).wakeReady = true :=
  List.foldlRecOn (motive := fun t => t.wakeReady = true) events waitEvent h
    fun _ ht e _ => wakeReady_waitEvent (inWait_of_wakeReady ht) e

/-- A delivery overwrites the slot, an expiry keeps it: the slot holds the last delivery, or what it held (R145, R149). -/
theorem pendingReply_foldl_waitEvent (s : State) (events : List (Option (List Byte))) :
    (events.foldl waitEvent s).pendingReply = (lastDelivery events).elim s.pendingReply .full := by
  induction events generalizing s with
  | nil => rfl
  | cons e rest ih =>
    rw [List.foldl_cons, ih, lastDelivery]
    cases lastDelivery rest with
    | some buf => rfl
    | none => cases e <;> simp [waitEvent]

/-- Settles O21: the first event enables step B and no later one disables it; the slot, emptied by step A, then holds the last
delivery. -/
theorem readReturnsTheLastDelivery : Obligations.ReadReturnsTheLastDelivery := by
  intro s frame events
  constructor
  · cases events with
    | nil => exact wakeReady_of_wake_none (State.issueRead_wake s frame)
    | cons e rest => exact wakeReady_foldl_waitEvent (wakeReady_waitEvent (inWait_issueRead s frame) e) rest
  · rw [State.slotResult, pendingReply_foldl_waitEvent, State.issueRead_pendingReply]
    cases lastDelivery events <;> rfl

/-! ### Step B -/

theorem readResult_of_empty {s : State} (h : s.pendingReply = .empty) : s.readResult = .error .timeout := by
  simp [State.readResult, State.slotResult, h]

theorem readResult_of_full {s : State} {buf : List Byte} (h : s.pendingReply = .full buf) :
    s.readResult = decodeReply buf := by
  simp [State.readResult, State.slotResult, h]

theorem requesterMove_readBackEnd {s : State} {k : Nat} {r : RegAddr} {v : Word} (hpc : s.seqPc = .step k .await)
    (hop : s.currentOp = some (.readBack r v)) (hready : s.wakeReady = true) :
    requesterMove s = .next (readBackEnd v s.readResult s.endWait) := by
  rw [requesterMove_await hpc hop, wakeMove, if_pos hready]

theorem requesterMove_readStatusEnd {s : State} {k : Nat} {r : RegAddr} {kind : StatusKind} (hpc : s.seqPc = .step k .await)
    (hop : s.currentOp = some (.readStatus kind r)) (hready : s.wakeReady = true) :
    requesterMove s = .next (readStatusEnd kind s.readResult s.endWait) := by
  rw [requesterMove_await hpc hop, wakeMove, if_pos hready]

/-- A read whose step B answers an error raises that error (R146, R152). -/
theorem requesterMove_of_readResult_error {s : State} {k : Nat} {op : MicroOp} {e : CmdError} (hpc : s.seqPc = .step k .await)
    (hop : s.currentOp = some op) (hread : isRead op = true) (hready : s.wakeReady = true) (hr : s.readResult = .error e) :
    requesterMove s = .next (s.endWait.raise e) := by
  cases op with
  | readBack r v => rw [requesterMove_readBackEnd hpc hop hready, hr, readBackEnd]
  | readStatus kind r => rw [requesterMove_readStatusEnd hpc hop hready, hr, readStatusEnd]
  | validate _ | openLink | setState _ | setRps _ | write _ _ | powerCycle | fresh | eval | setFlag _ _ | closeLink | ret _ =>
    cases hread

/-- Everything that step B and an error of command `c` write (R146, R262). -/
theorem raise_endWait_of_free {s : State} {c : Command} (e : CmdError) (hl : s.lock = .free) (hc : s.curCmd = some c) :
    s.endWait.raise e =
      { s with
        waiting := false, readTimer := .disarmed, lifecycle := stateAfterError c e s.lifecycle, seqPc := .idle, curCmd := none
        outputs := s.outputs ++ [.result (.err e)] } := by
  rw [endWait_of_free hl, State.raise, hc]
  rfl

/-- An error of a read-back makes STATE Faulted: `start` and `reset` alone read back (R194, R220). -/
theorem raise_readBack {s : State} {r : RegAddr} {v : Word} {e : CmdError} (hop : s.currentOp = some (.readBack r v))
    (hl : s.lock = .free) (hf : Fails s (.readBack r v) .await s.endWait e) :
    s.endWait.raise e =
      { s with
        waiting := false, readTimer := .disarmed, lifecycle := .faulted, seqPc := .idle, curCmd := none
        outputs := s.outputs ++ [.result (.err e)] } := by
  obtain ⟨c, k, p, hc, -, hat⟩ := currentOp_eq_some hop
  obtain ⟨hconf, -, -⟩ := placed_of_microOpAt hat
  rw [raise_endWait_of_free e hl hc, stateAfterError_of_readBack hconf hf.mem_errorsRaisedBy]

/-- Settles O22: the slot and the reply decoder give step B's result, and each error of a read-back makes STATE Faulted. -/
theorem readBackEnds : Obligations.ReadBackEnds := by
  intro s k r v hpc hop hwait hwake hl
  have hready : s.wakeReady = true := (wakeReady_iff s).mpr ⟨hwait, hwake, hl⟩
  have herror {e} (hr : s.readResult = .error e) := (requesterMove_of_readResult_error hpc hop rfl hready hr).trans
    (congrArg Host.Outcome.next (raise_readBack hop hl (.read rfl hr)))
  refine ⟨fun hslot => herror (readResult_of_empty hslot),
    fun buf e hslot he => herror ((readResult_of_full hslot).trans he), fun buf reply hslot hd => ?_⟩
  have hr : s.readResult = .ok reply := (readResult_of_full hslot).trans hd
  rw [requesterMove_readBackEnd hpc hop hready, hr, readBackEnd]
  split
  · rw [State.advance_of_step (s := s.endWait) hpc, endWait_of_free hl]
  · next hne => rw [raise_readBack hop hl (.readBack hr hne)]

/-- The errors of a read do not require a reset (R220). -/
theorem resetRequiring_of_readStatus {kind : StatusKind} {r : RegAddr} :
    ∀ e ∈ errorsRaisedBy (.readStatus kind r), resetRequiring e = false := by
  simp [errorsRaisedBy, decodeErrors, resetRequiring]

/-- An error of a status read leaves STATE as it is: `checkStatus` alone reads the status (R206, R220). -/
theorem raise_readStatus {s : State} {kind : StatusKind} {r : RegAddr} {e : CmdError}
    (hop : s.currentOp = some (.readStatus kind r)) (hl : s.lock = .free)
    (hf : Fails s (.readStatus kind r) .await s.endWait e) :
    s.endWait.raise e =
      { s with
        waiting := false, readTimer := .disarmed, seqPc := .idle, curCmd := none
        outputs := s.outputs ++ [.result (.err e)] } := by
  obtain ⟨c, k, p, hc, -, hat⟩ := currentOp_eq_some hop
  obtain rfl : c = .checkStatus := placed_of_microOpAt hat
  rw [raise_endWait_of_free e hl hc, stateAfterError, resetRequiring_of_readStatus e hf.mem_errorsRaisedBy]
  rfl

/-- Settles O23: the slot and the reply decoder give step B's result, and no error of a status read changes STATE. -/
theorem statusReadEnds : Obligations.StatusReadEnds := by
  intro s k kind r hpc hop hwait hwake hl
  have hready : s.wakeReady = true := (wakeReady_iff s).mpr ⟨hwait, hwake, hl⟩
  have herror {e} (hr : s.readResult = .error e) := (requesterMove_of_readResult_error hpc hop rfl hready hr).trans
    (congrArg Host.Outcome.next (raise_readStatus hop hl (.read rfl hr)))
  refine ⟨fun hslot => herror (readResult_of_empty hslot),
    fun buf e hslot he => herror ((readResult_of_full hslot).trans he), fun buf reply hslot hd => ?_⟩
  rw [requesterMove_readStatusEnd hpc hop hready, readResult_of_full hslot, hd, readStatusEnd, endWait_of_free hl]
  exact congrArg Host.Outcome.next (State.advance_of_step hpc)

/-! ### Runs by the turns of the schedule (log 1) -/

theorem run_succ_of_next (M : Host.Core) {n : Nat} {s t : M.State} (h : M.step s = .next t) : M.run (n + 1) s = M.run n t := by
  rw [Host.Core.run, h]

/-- A run begins with the turn the schedule names first. -/
theorem steps_of_turn {n : Nat} {s t : State} {a : Agent} {turns : List Agent} {o : Host.Outcome State Fault Refusal}
    (hsch : s.schedule = a :: turns) (hmove : agentMove a { s with schedule := turns } = .next t) (hrun : steps n t = o) :
    steps (n + 1) s = o := by
  have htick : s.tick = { s with schedule := turns } := by rw [State.tick, hsch, List.tail_cons]
  have hstep : step s = .next t := by rw [step_of_agent (a := a) (by rw [nextAgent, hsch]), htick, hmove]
  exact (run_succ_of_next core hstep).trans hrun

theorem steps_of_requester_turn {n : Nat} {s t : State} {turns : List Agent} {o : Host.Outcome State Fault Refusal}
    (hsch : s.schedule = .requester :: turns) (hmove : requesterMove { s with schedule := turns } = .next t)
    (hrun : steps n t = o) : steps (n + 1) s = o :=
  steps_of_turn hsch hmove hrun

theorem submit_of_accept {s : State} {c : Command} (hready : s.portReady = true) (ha : admission s.lifecycle c = .accept) :
    submit c s = .next { s with curCmd := some c, seqPc := .step 1 .issue } := by
  rw [submit, if_pos hready, ha]

/-- A command that the legality table accepts, on a port with no command in progress, goes to its first step (R231). -/
theorem callerMove_of_accept {s : State} {c : Command} {rest : List Command} (hcmd : s.cmdIn = c :: rest)
    (hcur : s.curCmd = none) (ha : admission s.lifecycle c = .accept) :
    callerMove s = .next { s with cmdIn := rest, curCmd := some c, seqPc := .step 1 .issue } := by
  have hl : s.lifecycle ≠ .configuring := fun h => by rw [h] at ha; cases ha
  have hready : s.portReady = true := (portReady_iff s).mpr ⟨hcur, hl⟩
  rw [callerMove_of_offer s hcmd, if_pos hready]
  exact submit_of_accept (s := { s with cmdIn := rest }) hready ha

/-- FRESH (R205). -/
theorem requesterMove_fresh {s : State} {k : Nat} (hpc : s.seqPc = .step k .issue) (hop : s.currentOp = some .fresh) :
    requesterMove s =
      .next { s with statusWork := MotorStatus.fresh s.cfg.dataCorruptInit, seqPc := .step (k + 1) .issue } := by
  rw [requesterMove_issue hpc hop]
  exact congrArg Host.Outcome.next (State.advance_of_step hpc)

/-- A status read in phase Issue, with LOCK Free, makes step A (R141 to R144). -/
theorem requesterMove_statusRequest {s : State} {k : Nat} {kind : StatusKind} {r : RegAddr} (hpc : s.seqPc = .step k .issue)
    (hop : s.currentOp = some (.readStatus kind r)) (hl : s.lock = .free) :
    requesterMove s = .next
      { s with pendingReply := .empty, outputs := s.outputs ++ [.tx (encodeRead s.cfg.slaveAddress r)], waiting := true,
               wake := .none, readTimer := .armed, seqPc := .step k .await } := by
  rw [requesterMove_readStatus hpc hop hl, issueRead_of_free _ hpc hl]

/-- Settles O38, turn by turn: acceptance, FRESH, step A of the first read, the expiry, and step B, which finds the slot empty. -/
theorem checkStatusTimesOut : Obligations.CheckStatusTimesOut := by
  intro s cmds sch hcur hlife hl hcmd hsch
  have ha : admission s.lifecycle .checkStatus = .accept := by obtain h | h := hlife <;> rw [h] <;> rfl
  refine steps_of_turn hsch (callerMove_of_accept hcmd hcur ha) ?_
  refine steps_of_requester_turn rfl (requesterMove_fresh rfl rfl) ?_
  refine steps_of_requester_turn rfl (requesterMove_statusRequest rfl rfl (by exact hl)) ?_
  refine steps_of_turn rfl ((readWaitExpires _).1 rfl rfl rfl) ?_
  refine steps_of_requester_turn rfl ((statusReadEnds _ _ _ _ rfl rfl rfl (by exact nofun) (by exact hl)).1 rfl) ?_
  simp only [List.append_assoc, List.cons_append, List.nil_append]
  rfl

end Sys2Proof.Proofs
end

section
/-! SUPPORT. Proof of the obligation of 43_status_decoder.md: when the stall flag is set, and the record a status decode answers for
each kind and register byte. -/

namespace Sys2Proof.Proofs

open Sys2Proof Sys2Proof.Machine

/-- The stall flag is bit 24 with a load value (bits 15 to 0) of zero (R164). -/
theorem stallFlag_eq (d : Word) : stallFlag d = decide (d.getLsbD 24 = true ∧ d.toNat % 65536 = 0) := by
  have hload : d.extractLsb' 0 16 = 0 ↔ d.toNat % 65536 = 0 := by
    rw [← BitVec.toNat_inj, BitVec.extractLsb'_toNat, Nat.shiftRight_zero]
    rfl
  rw [Bool.eq_iff_iff, decide_eq_true_iff, ← hload, stallFlag, Bool.and_eq_true, beq_iff_eq]

/-- A decode of the velocity kind looks at no register byte but 0x22 (R162, R168). -/
theorem decodeStatus_velocity (regByte : Byte) (d : Word) (s : MotorStatus) :
    decodeStatus .velocity regByte d s = if regByte = 0x22 then decodeVelocity d s else s := rfl

/-- A decode of the driver-status kind looks at no register byte but 0x6F (R162, R168). -/
theorem decodeStatus_driverError (regByte : Byte) (d : Word) (s : MotorStatus) :
    decodeStatus .driverError regByte d s = if regByte = 0x6F then decodeDriver d s else s := rfl

/-- Settles O11: the kind picks the one register byte that writes, and of the fields written only the stall flag is computed. -/
theorem statusDecoding : Obligations.StatusDecoding := by
  intro kind regByte d s
  cases kind with
  | velocity => simp [decodeStatus_velocity, decodeVelocity]
  | driverError => simp [decodeStatus_driverError, decodeDriver, stallFlag_eq]

end Sys2Proof.Proofs
end

section
/-! SUPPORT. Proofs of the obligations of 44_sequencer.md about one move of the sequencer: the W forms, the micro-programs, the
velocity register value, and the requester's move at each micro-operation in phase Issue. -/

namespace Sys2Proof.Proofs

open Sys2Proof Sys2Proof.Machine Sys2Proof.Safety

/-! ### Write forms (R190) -/

/-- Settles O13: the form's frame is the issued one, and its transmission is the issue of the W. -/
theorem writeFramesTransmit : Obligations.WriteFramesTransmit := by
  intro s k r v slave reg d crc i hi hpc hop hframe
  have hissued : s.issuedWrite = some (encode i) := by rw [hframe, State.issuedWrite, hpc, hop]
  rw [exec_of_mem_writeForms hi, transmitWrite_of_issued hissued, State.issueWrite_of_step _ hpc]

/-! ### Micro-programs and the velocity register value -/

/-- Settles O25, by computing the nine lists. -/
theorem microPrograms : Obligations.MicroPrograms :=
  fun _ _ _ => ⟨rfl, rfl, rfl, rfl, rfl, rfl, rfl, rfl, rfl⟩

/-- On the domain of rule R185 the product is at most `5 × 51200`, so its floor is a u32. -/
theorem floor_bounds {rps : Rat} (h : validRps rps) :
    0 ≤ (rps * 51200).floor ∧ (rps * 51200).floor ≤ 256000 := by
  obtain ⟨hmin, hmax⟩ : 0 ≤ rps ∧ rps ≤ 5 := h
  exact ⟨Rat.le_floor_iff.mpr (by push_cast; linarith),
    Int.lt_add_one_iff.mp (Rat.floor_lt_iff.mpr (by push_cast; linarith))⟩

theorem toNat_vreg {rps : Rat} (h : validRps rps) : ((vreg rps).toNat : Int) = (rps * 51200).floor := by
  obtain ⟨hmin, hmax⟩ := floor_bounds h
  rw [vreg, if_pos h, BitVec.toNat_ofInt]
  show (((rps * 51200).floor % (2 ^ 32 : Nat)).toNat : Int) = _
  omega

/-- Settles O26: the floor fits the word; the corner cases are computed. -/
theorem vregIsTheFloor : Obligations.VregIsTheFloor := by
  refine ⟨fun rps hmin hmax => ?_, by decide +kernel, by decide +kernel, by decide +kernel, by decide +kernel⟩
  have hfloor := toNat_vreg ⟨hmin, hmax⟩
  obtain ⟨-, hle⟩ := floor_bounds ⟨hmin, hmax⟩
  exact ⟨hfloor, by omega⟩

/-! ### A move that completes, and a move that fails -/

theorem resetRequiring_of_beforeConfiguring {e : CmdError} (he : beforeConfiguring e = true) : resetRequiring e = false := by
  cases e <;> cases he <;> rfl

/-- No command changes STATE for an error of VALIDATE or OPEN (R194, R220). -/
theorem stateAfterError_of_beforeConfiguring {e : CmdError} (he : beforeConfiguring e = true) (c : Command) (l : Lifecycle) :
    stateAfterError c e l = l := by
  cases c with
  | start _ | reset _ => simp [stateAfterError, he]
  | checkStatus => simp [stateAfterError, resetRequiring_of_beforeConfiguring he]
  | setVelocity _ | resetPositionCounter | enableStallException _ | enableVelocityException _ | close => rfl

theorem raise_of_beforeConfiguring {e : CmdError} (he : beforeConfiguring e = true) (s : State) :
    s.raise e = { s with seqPc := .idle, curCmd := none, outputs := s.outputs ++ [.result (.err e)] } := by
  unfold State.raise
  cases s.curCmd with
  | none => rfl
  | some c => simp only [stateAfterError_of_beforeConfiguring he c]; rfl

/-- Settles O27: the range check is the move's one branch. -/
theorem validateMove : Obligations.ValidateMove := by
  intro s k rps hpc hop
  rw [requesterMove_issue hpc hop, issueMove]
  refine ⟨fun hmin hmax => ?_, fun hout => ?_⟩
  · rw [if_pos ⟨hmin, hmax⟩, State.advance_of_step hpc]
  · have hinvalid : ¬ validRps rps := fun ⟨hmin, hmax⟩ => hout.elim hmin.not_gt hmax.not_gt
    rw [if_neg hinvalid, raise_of_beforeConfiguring rfl]

/-- Settles O28, by the LINK's answer. -/
theorem openMoveAnswers : Obligations.OpenMove := by
  intro s k hpc hop
  rw [requesterMove_issue hpc hop, issueMove, openMove]
  refine ⟨fun h => by rw [h], fun rest h => ?_, fun rest h => ?_, fun rest h => ?_⟩ <;> rw [h]
  · exact congrArg Host.Outcome.next (State.advance_of_step hpc)
  · simp only [raise_of_beforeConfiguring (e := .portUnavailable) rfl, State.emit, List.append_assoc]; rfl
  · simp only [raise_of_beforeConfiguring (e := .openFailed) rfl, State.emit, List.append_assoc]; rfl

section
variable {s : State} {k : Nat}

/-- A move in phase Issue that writes `u` and completes. -/
theorem requesterMove_of_advance {u : State} {op : MicroOp} (hpc : s.seqPc = .step k .issue) (hop : s.currentOp = some op)
    (hu : issueMove op s = .next u.advance) (hupc : u.seqPc = s.seqPc) :
    requesterMove s = .next { u with seqPc := .step (k + 1) .issue } := by
  rw [requesterMove_issue hpc hop, hu, State.advance_of_step (hupc.trans hpc)]

theorem requesterMove_setState {l : Lifecycle} (hpc : s.seqPc = .step k .issue) (hop : s.currentOp = some (.setState l)) :
    requesterMove s = .next { s with lifecycle := l, seqPc := .step (k + 1) .issue } :=
  requesterMove_of_advance hpc hop rfl rfl

theorem requesterMove_setRps {rps : Rat} (hpc : s.seqPc = .step k .issue) (hop : s.currentOp = some (.setRps rps)) :
    requesterMove s = .next { s with desiredRps := rps, seqPc := .step (k + 1) .issue } :=
  requesterMove_of_advance hpc hop rfl rfl

theorem requesterMove_powerCycle (hpc : s.seqPc = .step k .issue) (hop : s.currentOp = some .powerCycle) :
    requesterMove s = .next { s with seqPc := .step (k + 1) .issue } :=
  requesterMove_of_advance hpc hop rfl rfl

theorem requesterMove_setStallFlag {b : Bool} (hpc : s.seqPc = .step k .issue)
    (hop : s.currentOp = some (.setFlag .stall b)) :
    requesterMove s = .next { s with stallExcEn := b, seqPc := .step (k + 1) .issue } :=
  requesterMove_of_advance hpc hop rfl rfl

theorem requesterMove_setVelocityFlag {b : Bool} (hpc : s.seqPc = .step k .issue)
    (hop : s.currentOp = some (.setFlag .velocity b)) :
    requesterMove s = .next { s with velExcEn := b, seqPc := .step (k + 1) .issue } :=
  requesterMove_of_advance hpc hop rfl rfl

end

/-- Settles O29, one lemma for each micro-operation. -/
theorem registerMoves : Obligations.RegisterMoves := fun _ _ hpc =>
  ⟨fun _ => requesterMove_setState hpc, fun _ => requesterMove_setRps hpc, requesterMove_powerCycle hpc,
    requesterMove_fresh hpc, fun _ => requesterMove_setStallFlag hpc, fun _ => requesterMove_setVelocityFlag hpc⟩

/-- The state after EVAL at step `k` of `checkStatus`: the next step, or the error it raises, with STATE Faulted if that requires a
reset (R207, R220). -/
def afterEval (s : State) (k : Nat) : Option CmdError → State
  | none => { s with seqPc := .step (k + 1) .issue }
  | some e =>
    { s with
      lifecycle := if resetRequiring e = true then .faulted else s.lifecycle, seqPc := .idle, curCmd := none
      outputs := s.outputs ++ [.result (.err e)] }

/-- EVAL stands in `checkStatus` alone, so its errors change STATE as `checkStatus`'s do. -/
theorem requesterMove_eval {s : State} {k : Nat} (hpc : s.seqPc = .step k .issue) (hop : s.currentOp = some .eval) :
    requesterMove s = .next (afterEval s k (evalStatus s.statusWork s.stallExcEn s.velExcEn s.desiredRps)) := by
  obtain ⟨c, _, _, hc, -, hat⟩ := currentOp_eq_some hop
  obtain rfl : c = .checkStatus := placed_of_microOpAt hat
  rw [requesterMove_issue hpc hop, issueMove]
  cases evalStatus s.statusWork s.stallExcEn s.velExcEn s.desiredRps with
  | none => exact congrArg Host.Outcome.next (State.advance_of_step hpc)
  | some e => simp only [State.raise, hc]; rfl

theorem requesterMove_eval_none {s : State} {k : Nat} (hpc : s.seqPc = .step k .issue) (hop : s.currentOp = some .eval)
    (he : evalStatus s.statusWork s.stallExcEn s.velExcEn s.desiredRps = none) :
    requesterMove s = .next { s with seqPc := .step (k + 1) .issue } := by
  rw [requesterMove_eval hpc hop, he, afterEval]

/-- Settles O30: both sides make the same checks in the same order. -/
theorem evalMove : Obligations.EvalMove := by
  intro s k hpc hop
  rw [requesterMove_eval hpc hop]
  simp only [evalStatus, apply_ite (afterEval s k)]
  exact congrArg Host.Outcome.next (if_congr Bool.and_eq_true_iff rfl rfl)

/-- RET ends the command with its value (R184). -/
theorem requesterMove_ret {s : State} {k : Nat} {v : RetValue} (hpc : s.seqPc = .step k .issue)
    (hop : s.currentOp = some (.ret v)) :
    requesterMove s =
      .next { s with seqPc := .idle, curCmd := none, outputs := s.outputs ++ [.result (.ok (s.retValue v))] } :=
  requesterMove_issue hpc hop

/-- Settles O31, by the LINK's answer and by the value of RET. -/
theorem closeAndRetMoves : Obligations.CloseAndRetMoves := by
  intro s k hpc
  refine ⟨fun hop h => ?_, fun b rest hop h => ?_, requesterMove_ret hpc, requesterMove_ret hpc, requesterMove_ret hpc⟩ <;>
    rw [requesterMove_issue hpc hop, issueMove, closeMove, h]
  exact congrArg Host.Outcome.next (State.advance_of_step hpc)

end Sys2Proof.Proofs
end

section
/-! SUPPORT. Proofs of the obligations of 44_sequencer.md about whole commands: the turns of a W, of a read that is answered and of
CONFIG_BODY, and the runs that are made of them. -/

namespace Sys2Proof.Proofs

open Sys2Proof Sys2Proof.Machine Sys2Proof.Safety

section
variable {n k : Nat} {s : State} {turns : List Agent} {o : Host.Outcome State Fault Refusal}

/-! ### The turns of a W (R190) -/

/-- A W in phase Issue sends its frame and arms the settle timer. -/
theorem requesterMove_send {reg : RegAddr} {v : Word} (hpc : s.seqPc = .step k .issue)
    (hop : s.currentOp = some (.write reg v)) :
    requesterMove s = .next
      { s with
        outputs := s.outputs ++ [.tx (encodeWrite s.cfg.slaveAddress reg v)], seqPc := .step k .settle
        settleTimer := .armed } := by
  rw [requesterMove_write hpc hop, State.issueWrite_of_step _ hpc]

theorem steps_of_write {reg : RegAddr} {v : Word} (hpc : s.seqPc = .step k .issue)
    (hop : s.currentOp = some (.write reg v)) (hsch : s.schedule = writeTurns ++ turns)
    (hrun : steps n
      { s with
        outputs := s.outputs ++ [.tx (encodeWrite s.cfg.slaveAddress reg v)], seqPc := .step (k + 1) .issue
        settleTimer := .disarmed, schedule := turns } = o) : steps (n + 2) s = o := by
  refine steps_of_requester_turn hsch (requesterMove_send (by exact hpc) (by exact hop)) ?_
  exact steps_of_turn rfl ((settleEndCompletesTheWrite _).1 k rfl rfl) hrun

/-- The frame a micro-operation sends, if it sends one (R190, R191, R206). -/
def opFrame (cfg : Config) : MicroOp → Option (List Byte)
  | .write reg v => some (encodeWrite cfg.slaveAddress reg v)
  | .readBack reg _ | .readStatus _ reg => some (encodeRead cfg.slaveAddress reg)
  | .validate _ | .openLink | .setState _ | .setRps _ | .powerCycle | .fresh | .eval | .setFlag _ _ | .closeLink | .ret _ => none

/-- The state after the W's `ops`, the first of them at step `k`: their frames went out in order. -/
def afterWrites (s : State) (k : Nat) (ops : List MicroOp) : State :=
  { s with
    outputs := s.outputs ++ (ops.filterMap (opFrame s.cfg)).map .tx, seqPc := .step (k + ops.length) .issue
    settleTimer := if ops.isEmpty then s.settleTimer else .disarmed }

/-- A row of W's from step `k` on, by induction on the row. -/
theorem steps_of_writes {c : Command} {ops : List MicroOp} (hw : ∀ op ∈ ops, isWrite op = true) (hcur : s.curCmd = some c)
    (hpc : s.seqPc = .step k .issue) (hops : ∀ i op, ops[i]? = some op → microOpAt s.cfg c (k + i) = some op)
    (hsch : s.schedule = (List.replicate ops.length writeTurns).flatten ++ turns)
    (hrun : steps n { afterWrites s k ops with schedule := turns } = o) : steps (n + 2 * ops.length) s = o := by
  induction ops generalizing s k with
  | nil =>
    have hs : { afterWrites s k [] with schedule := turns } = s := by
      cases s; cases hpc; cases hsch; simp [afterWrites]
    rwa [hs] at hrun
  | cons op ops ih =>
    have hop : s.currentOp = some op := (currentOp_of_step hcur hpc).trans (hops 0 op rfl)
    have hw₁ := hw op List.mem_cons_self
    cases op <;> cases hw₁
    next reg v =>
    refine steps_of_write (n := n + 2 * ops.length) hpc hop hsch ?_
    refine ih (fun op h => hw op (List.mem_cons_of_mem _ h)) hcur rfl (fun i op h => ?_) rfl ?_
    · rw [Nat.add_assoc, Nat.add_comm 1]
      exact hops (i + 1) op h
    · simpa [afterWrites, opFrame, Nat.add_assoc, Nat.add_comm 1] using hrun

/-! ### The turns of a read that is answered (R141) -/

/-- A change of phase keeps the micro-operation at SEQ_PC. -/
theorem currentOp_of_phase {t : State} {p q : Phase} {op : MicroOp} (hop : s.currentOp = some op) (hs : s.seqPc = .step k p)
    (hcfg : t.cfg = s.cfg) (hcur : t.curCmd = s.curCmd) (ht : t.seqPc = .step k q) : t.currentOp = some op := by
  obtain ⟨c, _, _, hc, hpc, hat⟩ := currentOp_eq_some hop
  cases hs.symm.trans hpc
  rw [currentOp_of_step (hcur.trans hc) ht, hcfg, hat]

theorem requesterMove_request {r : RegAddr} {v : Word} {kind : StatusKind} (hpc : s.seqPc = .step k .issue)
    (hop : s.currentOp = some (.readBack r v) ∨ s.currentOp = some (.readStatus kind r)) (hl : s.lock = .free) :
    requesterMove s = .next
      { s with pendingReply := .empty, outputs := s.outputs ++ [.tx (encodeRead s.cfg.slaveAddress r)], waiting := true,
               wake := .none, readTimer := .armed, seqPc := .step k .await } := by
  obtain hop | hop := hop
  · rw [requesterMove_readBack hpc hop hl, issueRead_of_free _ hpc hl]
  · exact requesterMove_statusRequest hpc hop hl

/-- Step A and the delivery of one buffer: the wait has ended and step B is next. -/
theorem steps_of_answered {r : RegAddr} {v : Word} {kind : StatusKind} {buf : List Byte} {rx : List (List Byte)}
    (hpc : s.seqPc = .step k .issue) (hop : s.currentOp = some (.readBack r v) ∨ s.currentOp = some (.readStatus kind r))
    (hl : s.lock = .free) (hrx : s.rxIn = buf :: rx) (hsch : s.schedule = .requester :: .delivery :: turns)
    (hrun : steps n
      { s with
        pendingReply := .full buf, outputs := s.outputs ++ [.tx (encodeRead s.cfg.slaveAddress r)], waiting := true
        wake := .signalled, readTimer := .armed, seqPc := .step k .await, rxIn := rx, schedule := turns } = o) :
    steps (n + 2) s = o := by
  refine steps_of_requester_turn hsch (requesterMove_request (by exact hpc) (by exact hop) (by exact hl)) ?_
  exact steps_of_turn rfl (anyBufferIsDeposited _ _ _ (by exact hrx) (by exact hl)) hrun

/-- The three turns of a read-back that is answered with the expected word, under any register byte (R191). -/
theorem steps_of_readBack {r : RegAddr} {v : Word} {rb : Byte} {rx : List (List Byte)} (hpc : s.seqPc = .step k .issue)
    (hop : s.currentOp = some (.readBack r v)) (hl : s.lock = .free) (hrx : s.rxIn = mkReply rb v :: rx)
    (hsch : s.schedule = readTurns ++ turns)
    (hrun : steps n
      { s with
        pendingReply := .full (mkReply rb v), outputs := s.outputs ++ [.tx (encodeRead s.cfg.slaveAddress r)]
        waiting := false, wake := .signalled, readTimer := .disarmed, seqPc := .step (k + 1) .issue, rxIn := rx
        schedule := turns } = o) : steps (n + 3) s = o := by
  refine steps_of_answered (kind := .velocity) hpc (.inl hop) hl hrx hsch (steps_of_requester_turn rfl ?_ hrun)
  refine ((readBackEnds _ k r v rfl ?_ rfl (by exact nofun) (by exact hl)).2.2 _ _ rfl (decodeReply_mkReply rb v)).trans
    (congrArg Host.Outcome.next (if_pos rfl))
  exact currentOp_of_phase hop hpc rfl rfl rfl

/-- The three turns of a status read that is answered with a valid reply (R206). -/
theorem steps_of_readStatus {r : RegAddr} {kind : StatusKind} {rb : Byte} {d : Word} {rx : List (List Byte)}
    (hpc : s.seqPc = .step k .issue) (hop : s.currentOp = some (.readStatus kind r)) (hl : s.lock = .free)
    (hrx : s.rxIn = mkReply rb d :: rx) (hsch : s.schedule = readTurns ++ turns)
    (hrun : steps n
      { s with
        pendingReply := .full (mkReply rb d), outputs := s.outputs ++ [.tx (encodeRead s.cfg.slaveAddress r)]
        waiting := false, wake := .signalled, readTimer := .disarmed, seqPc := .step (k + 1) .issue, rxIn := rx
        statusWork := decodeStatus kind rb d s.statusWork, schedule := turns } = o) : steps (n + 3) s = o := by
  refine steps_of_answered (v := 0) hpc (.inr hop) hl hrx hsch (steps_of_requester_turn rfl ?_ hrun)
  refine (statusReadEnds _ k kind r rfl ?_ rfl (by exact nofun) (by exact hl)).2.2 _ _ rfl (decodeReply_mkReply rb d)
  exact currentOp_of_phase hop hpc rfl rfl rfl

end

/-! ### Whole commands -/

/-- In Running and Faulted the legality table accepts every command but `start` (R232). -/
theorem admission_of_live {l : Lifecycle} (hl : l = .running ∨ l = .faulted) {c : Command} (hc : ∀ rps, c ≠ .start rps) :
    admission l c = .accept := by
  cases c with
  | start rps => exact absurd rfl (hc rps)
  | setVelocity _ | resetPositionCounter | checkStatus | reset _ | enableStallException _ | enableVelocityException _ | close =>
    obtain rfl | rfl := hl <;> rfl

/-- Settles O35, turn by turn: acceptance, VALIDATE, and on [0, 5] SETRPS, the W and RET. -/
theorem setVelocityRuns : Obligations.SetVelocityRuns := by
  intro s rps cmds sch hcur hlife hcmd
  have ha : admission s.lifecycle (.setVelocity rps) = .accept := admission_of_live hlife nofun
  refine ⟨fun hmin hmax hsch => ?_, fun hout hsch => ?_⟩
  · refine steps_of_turn hsch (callerMove_of_accept hcmd hcur ha) ?_
    refine steps_of_requester_turn rfl ((validateMove _ _ _ rfl rfl).1 hmin hmax) ?_
    refine steps_of_requester_turn rfl (requesterMove_setRps rfl rfl) ?_
    refine steps_of_write rfl rfl rfl ?_
    refine steps_of_requester_turn rfl (requesterMove_ret rfl rfl) ?_
    simp only [List.append_assoc, List.cons_append, List.nil_append]
    rfl
  · refine steps_of_turn hsch (callerMove_of_accept hcmd hcur ha) ?_
    exact steps_of_requester_turn rfl ((validateMove _ _ _ rfl rfl).2 hout) rfl

/-- Settles O36, turn by turn: acceptance, the W and RET. -/
theorem resetPositionCounterRuns : Obligations.ResetPositionCounterRuns := by
  intro s cmds sch hcur hlife hcmd hsch
  refine steps_of_turn hsch (callerMove_of_accept hcmd hcur (admission_of_live hlife nofun)) ?_
  refine steps_of_write rfl rfl rfl ?_
  refine steps_of_requester_turn rfl (requesterMove_ret rfl rfl) ?_
  simp only [List.append_assoc, List.cons_append, List.nil_append]
  rfl

/-- Settles O37, turn by turn: acceptance, FRESH, the two reads, EVAL and RET. -/
theorem checkStatusRuns : Obligations.CheckStatusRuns := by
  intro s r1 r2 d1 d2 cmds rx sch hcur hlife hl hcmd hrx hsch status hstatus heval
  subst hstatus
  refine steps_of_turn hsch (callerMove_of_accept hcmd hcur (admission_of_live hlife nofun)) ?_
  refine steps_of_requester_turn rfl (requesterMove_fresh rfl rfl) ?_
  refine steps_of_readStatus rfl rfl (by exact hl) (by exact hrx) rfl ?_
  refine steps_of_readStatus rfl rfl (by exact hl) rfl rfl ?_
  refine steps_of_requester_turn rfl (requesterMove_eval_none rfl rfl (by exact heval)) ?_
  refine steps_of_requester_turn rfl (requesterMove_ret rfl rfl) ?_
  simp only [List.append_assoc, List.cons_append, List.nil_append]
  rfl

/-- Outside Configuring the legality table accepts the enable commands (R232). -/
theorem admission_enable {l : Lifecycle} (hl : l ≠ .configuring) (b : Bool) :
    admission l (.enableStallException b) = .accept ∧ admission l (.enableVelocityException b) = .accept := by
  cases l with
  | configuring => exact absurd rfl hl
  | uninitialized | running | faulted | closed => exact ⟨rfl, rfl⟩

/-- Settles O39, turn by turn: acceptance, SETFLAG and RET. -/
theorem enableCommandsRun : Obligations.EnableCommandsRun := by
  intro s b cmds sch hcur hlife hsch
  obtain ⟨hstall, hvelocity⟩ := admission_enable hlife b
  refine ⟨fun hcmd => ?_, fun hcmd => ?_⟩
  · refine steps_of_turn hsch (callerMove_of_accept hcmd hcur hstall) ?_
    refine steps_of_requester_turn rfl (requesterMove_setStallFlag rfl rfl) ?_
    exact steps_of_requester_turn rfl (requesterMove_ret rfl rfl) rfl
  · refine steps_of_turn hsch (callerMove_of_accept hcmd hcur hvelocity) ?_
    refine steps_of_requester_turn rfl (requesterMove_setVelocityFlag rfl rfl) ?_
    exact steps_of_requester_turn rfl (requesterMove_ret rfl rfl) rfl

/-- Settles O40, turn by turn: acceptance, CLOSE and RET. -/
theorem closeRuns : Obligations.CloseRuns := by
  intro s b answers cmds sch hcur hlife hcmd hanswers hsch
  refine steps_of_turn hsch (callerMove_of_accept hcmd hcur (admission_of_live hlife nofun)) ?_
  refine steps_of_requester_turn rfl ((closeAndRetMoves _ _ rfl).2.1 _ _ rfl (by exact hanswers)) ?_
  refine steps_of_requester_turn rfl (requesterMove_ret rfl rfl) ?_
  simp only [List.append_assoc, List.cons_append, List.nil_append]
  rfl

/-! ### CONFIG_BODY -/

/-- `start` and `reset` run CONFIG_BODY and RET from step 3 on (R183). -/
theorem microOpAt_configBody {cfg : Config} {c : Command} {rps : Rat} (hc : c = .start rps ∨ c = .reset rps) {i : Nat}
    {op : MicroOp} (h : (configBody cfg rps ++ [.ret .unit])[i]? = some op) : microOpAt cfg c (i + 3) = some op := by
  obtain rfl | rfl := hc <;> exact h

/-- W1 to W17 follow SETSTATE and SETRPS (R183). -/
theorem microOpAt_configWrites {cfg : Config} {c : Command} {rps : Rat} (hc : c = .start rps ∨ c = .reset rps) {i : Nat}
    {op : MicroOp} (h : (configWrites cfg rps)[i]? = some op) : microOpAt cfg c (5 + i) = some op := by
  obtain ⟨hi, -⟩ := List.getElem?_eq_some_iff.mp h
  rw [Nat.add_comm]
  refine microOpAt_configBody hc (i := i + 2) ?_
  simp only [configBody, List.append_assoc]
  exact (List.getElem?_append_left hi).trans h

theorem currentOp_of_configBody {s : State} {c : Command} {rps : Rat} {p : Phase} {op : MicroOp} (i : Nat)
    (hc : c = .start rps ∨ c = .reset rps) (hcur : s.curCmd = some c) (hpc : s.seqPc = .step (i + 3) p)
    (h : (configBody s.cfg rps ++ [.ret .unit])[i]? = some op) : s.currentOp = some op := by
  rw [currentOp_of_step hcur hpc, microOpAt_configBody hc h]

/-- RB1 to RB4, answered with the words written (R191, R192). -/
theorem steps_of_configReadBacks {n : Nat} {s : State} {c : Command} {rps : Rat} {r1 r2 r3 r4 : Byte} {rx : List (List Byte)}
    {turns : List Agent} {o : Host.Outcome State Fault Refusal} (hc : c = .start rps ∨ c = .reset rps)
    (hcur : s.curCmd = some c) (hpc : s.seqPc = .step 22 .issue) (hl : s.lock = .free)
    (hrx : s.rxIn = [mkReply r1 s.cfg.cfgGconf, mkReply r2 s.cfg.cfgChopconf, mkReply r3 0,
      mkReply r4 s.cfg.rampmodePosition] ++ rx)
    (hsch : s.schedule = (List.replicate 4 readTurns).flatten ++ turns)
    (hrun : steps n
      { s with
        outputs := s.outputs ++ ((configReadBacks s.cfg).filterMap (opFrame s.cfg)).map .tx, seqPc := .step 26 .issue
        pendingReply := .full (mkReply r4 s.cfg.rampmodePosition), waiting := false, wake := .signalled
        readTimer := .disarmed, rxIn := rx, schedule := turns } = o) : steps (n + 12) s = o := by
  refine steps_of_readBack hpc (currentOp_of_configBody 19 hc hcur hpc rfl) hl hrx hsch ?_
  refine steps_of_readBack rfl (currentOp_of_configBody 20 hc hcur rfl rfl) hl rfl rfl ?_
  refine steps_of_readBack rfl (currentOp_of_configBody 21 hc hcur rfl rfl) hl rfl rfl ?_
  refine steps_of_readBack rfl (currentOp_of_configBody 22 hc hcur rfl rfl) hl rfl rfl ?_
  simp only [List.append_assoc]
  exact hrun

theorem configWriteFrames_eq (cfg : Config) (rps : Rat) :
    configWriteFrames cfg rps = (configWrites cfg rps).filterMap (opFrame cfg) := rfl

/-- The frames of a configuration are those of its micro-operations, in order (R192). -/
theorem configFrames_eq (cfg : Config) (rps : Rat) :
    configFrames cfg rps =
      (configWrites cfg rps).filterMap (opFrame cfg) ++ ((configReadBacks cfg).filterMap (opFrame cfg) ++
        [encodeWrite cfg.slaveAddress cfg.regXtarget cfg.unreachableTarget]) := by
  rw [configFrames, configWriteFrames_eq]
  rfl

/-- CONFIG_BODY and RET, the read-backs answered with the words written (R183, R192). -/
theorem steps_of_configBody {s : State} {c : Command} {rps : Rat} {r1 r2 r3 r4 : Byte} {rx : List (List Byte)}
    {sch : List Agent} (hc : c = .start rps ∨ c = .reset rps) (hcur : s.curCmd = some c) (hpc : s.seqPc = .step 3 .issue)
    (hl : s.lock = .free)
    (hrx : s.rxIn = [mkReply r1 s.cfg.cfgGconf, mkReply r2 s.cfg.cfgChopconf, mkReply r3 0,
      mkReply r4 s.cfg.rampmodePosition] ++ rx)
    (hsch : s.schedule = configTurns ++ [.requester] ++ sch) :
    steps 52 s = .next
      { s with
        lifecycle := .running, desiredRps := rps, curCmd := none, seqPc := .idle
        pendingReply := .full (mkReply r4 s.cfg.rampmodePosition), waiting := false, wake := .signalled
        readTimer := .disarmed, settleTimer := .disarmed, rxIn := rx, schedule := sch
        outputs := s.outputs ++ (configFrames s.cfg rps).map Output.tx ++ [.result (.ok .unit)] } := by
  simp only [configFrames_eq, List.map_append, ← List.append_assoc]
  have hturns : s.schedule = [.requester, .requester] ++ ((List.replicate 17 writeTurns).flatten ++
      ((List.replicate 4 readTurns).flatten ++ (writeTurns ++ ([.requester, .requester] ++ sch)))) := by
    rw [hsch]; rfl
  refine steps_of_requester_turn hturns
    (requesterMove_setState (by exact hpc) (currentOp_of_configBody 0 hc hcur (by exact hpc) rfl)) ?_
  refine steps_of_requester_turn rfl (requesterMove_setRps rfl (currentOp_of_configBody 1 hc hcur rfl rfl)) ?_
  refine steps_of_writes (n := 16) (ops := configWrites s.cfg rps) (by simp [configWrites, isWrite]) hcur rfl
    (fun i op h => microOpAt_configWrites hc h) rfl ?_
  refine steps_of_configReadBacks (n := 4) hc hcur rfl hl hrx rfl ?_
  refine steps_of_write rfl (currentOp_of_configBody 23 hc hcur rfl rfl) rfl ?_
  refine steps_of_requester_turn rfl (requesterMove_setState rfl (currentOp_of_configBody 24 hc hcur rfl rfl)) ?_
  exact steps_of_requester_turn rfl (requesterMove_ret rfl (currentOp_of_configBody 25 hc hcur rfl rfl)) rfl

/-- Settles O41: acceptance, VALIDATE and OPEN, then CONFIG_BODY and RET. -/
theorem startConfiguresAndRuns : Obligations.StartConfiguresAndRuns := by
  intro s rps r1 r2 r3 r4 cmds answers rx sch hcur hlife hl hmin hmax hcmd hanswers hrx hsch
  refine steps_of_turn hsch (callerMove_of_accept hcmd hcur (by exact hlife ▸ rfl)) ?_
  refine steps_of_requester_turn rfl ((validateMove _ 1 rps rfl rfl).1 hmin hmax) ?_
  refine steps_of_requester_turn rfl ((openMoveAnswers _ 2 rfl rfl).2.1 answers (by exact hanswers)) ?_
  exact steps_of_configBody (.inl rfl) rfl rfl hl hrx rfl

/-- Settles O42: acceptance, VALIDATE and POWERCYCLE, then CONFIG_BODY and RET. -/
theorem resetReconfigures : Obligations.ResetReconfigures := by
  intro s rps r1 r2 r3 r4 cmds rx sch hcur hlife hl hmin hmax hcmd hrx hsch
  refine steps_of_turn hsch (callerMove_of_accept hcmd hcur (admission_of_live hlife nofun)) ?_
  refine steps_of_requester_turn rfl ((validateMove _ 1 rps rfl rfl).1 hmin hmax) ?_
  refine steps_of_requester_turn rfl (requesterMove_powerCycle rfl rfl) ?_
  exact steps_of_configBody (.inr rfl) rfl rfl hl hrx rfl

end Sys2Proof.Proofs
end

section
/-! SUPPORT. Proofs of the obligations of 45_command_port.md about the commands the port accepts and the states in which it has no
move. -/

namespace Sys2Proof.Proofs

open Sys2Proof Sys2Proof.Machine

/-! ### Acceptance -/

/-- A command that the legality table accepts, on a port with no command in progress, is accepted (R231). -/
theorem exec_commandInstr_of_accept {s : State} {c : Command} (hcur : s.curCmd = none)
    (ha : admission s.lifecycle c = .accept) :
    exec (commandInstr c) s = .next { s with curCmd := some c, seqPc := .step 1 .issue } := by
  have hl : s.lifecycle ≠ .configuring := fun h => by rw [h] at ha; cases ha
  rw [exec_commandInstr]
  exact submit_of_accept ((portReady_iff s).mpr ⟨hcur, hl⟩) ha

/-- Settles O32, from the legality table's entry for each command. -/
theorem commandsAccepted : Obligations.CommandsAccepted := by
  intro s rps b hcur
  have accept : ∀ c, admission s.lifecycle c = .accept →
      exec (commandInstr c) s = .next { s with curCmd := some c, seqPc := .step 1 .issue } :=
    fun _ ha => exec_commandInstr_of_accept hcur ha
  refine ⟨fun hl => accept (.start rps) (by rw [hl]; rfl), fun hl => ?_, fun hl => ?_⟩
  · have live : ∀ c, (∀ r, c ≠ .start r) →
        exec (commandInstr c) s = .next { s with curCmd := some c, seqPc := .step 1 .issue } :=
      fun c hc => accept c (admission_of_live hl hc)
    exact ⟨live (.setVelocity rps) nofun, live .resetPositionCounter nofun, live .checkStatus nofun,
      live (.reset rps) nofun, live .close nofun⟩
  · obtain ⟨hstall, hvelocity⟩ := admission_enable hl b
    exact ⟨accept _ hstall, accept _ hvelocity⟩

/-! ### The busy port -/

theorem portReady_eq_false_iff (s : State) : s.portReady = false ↔ s.curCmd ≠ none ∨ s.lifecycle = .configuring := by
  rw [← Bool.not_eq_true, portReady_iff, not_and_or, not_not]

theorem submit_of_not_ready {s : State} (hbusy : s.portReady = false) (c : Command) : submit c s = .next s := by
  simp [submit, hbusy]

/-- The caller waits while the port is busy, whatever it offers (R231). -/
theorem callerMove_of_not_ready {s : State} (hbusy : s.portReady = false) : callerMove s = .next s := by
  cases hcmd : s.cmdIn with
  | nil => simp [callerMove, hcmd]
  | cons c rest => simp [callerMove_of_offer s hcmd, hbusy]

/-- Settles O34: the port is not ready, so neither a command nor the caller moves. -/
theorem commandPortBusy : Obligations.CommandPortBusy := by
  intro s h
  have hbusy : s.portReady = false := (portReady_eq_false_iff s).mpr h
  exact ⟨fun c => (exec_commandInstr c s).trans (submit_of_not_ready hbusy c), callerMove_of_not_ready hbusy⟩

end Sys2Proof.Proofs
end

section
/-! SUPPORT. Proof of the obligation of 60_exceptions.md about where each error is raised: the step that shows an error ends the
command, and the requester raises that error at the micro-operation at SEQ_PC. -/

namespace Sys2Proof.Proofs

open Sys2Proof Sys2Proof.Machine Sys2Proof.Safety

/-- A command can end in every error of every micro-operation that rule R183 puts into it (R254). -/
theorem mem_errorsOfCommand_of_placed {cfg : Config} {c : Command} {k : Nat} {op : MicroOp} {e : CmdError}
    (hp : Placed cfg c k op) (he : e ∈ errorsRaisedBy op) : e ∈ errorsOfCommand c := by
  cases op with
  | validate rps =>
    obtain ⟨-, harg⟩ := hp
    obtain rfl := List.mem_singleton.mp he
    cases c with
    | start _ | setVelocity _ | reset _ => simp [errorsOfCommand]
    | resetPositionCounter | checkStatus | enableStallException _ | enableVelocityException _ | close => cases harg
  | openLink =>
    obtain ⟨-, rps, rfl⟩ := hp
    exact List.mem_append_left (.invalidVelocity :: .timeout :: .configReadbackFailed :: decodeErrors) he
  | readBack reg v =>
    obtain ⟨⟨rps, rfl | rfl⟩, -⟩ := hp
    · exact List.mem_append_right [.portUnavailable, .openFailed, .invalidVelocity] he
    · exact List.mem_cons_of_mem _ he
  | readStatus kind reg => obtain rfl := hp; exact List.mem_append_left evalErrors he
  | eval => obtain rfl := hp; exact List.mem_append_right (.timeout :: decodeErrors) he
  | setState _ | setRps _ | write _ _ | powerCycle | fresh | setFlag _ _ | closeLink | ret _ => cases he

/-- A step whose last event is an error's result ends the command in progress. -/
theorem step_ends_of_err {s t : State} {pre : List Output} {e : CmdError} (hstep : step s = .next t)
    (hout : t.outputs = s.outputs ++ pre ++ [.result (.err e)]) : ∃ c, s.curCmd = some c ∧ t.curCmd = none := by
  obtain ⟨hbusy, hidle⟩ := resultsEndCommands s t hstep
  cases hc : s.curCmd with
  | none =>
    obtain h | ⟨-, h, -⟩ := hidle hc <;> rw [h] at hout
    · simp at hout
    · exact absurd (congrArg List.getLast? hout) (by simp)
  | some c =>
    obtain ⟨-, evs, h, hno⟩ | ⟨hend, -⟩ := hbusy c hc
    · rw [h, List.append_assoc, List.append_cancel_left_eq] at hout
      exact absurd (by simp [hout]) (hno (.err e))
    · exact ⟨c, rfl, hend⟩

/-- A move of the requester that ends the command and shows an error's result last raises that error. -/
theorem RequesterMove.fails_of_err {s t : State} {e : CmdError} (h : RequesterMove s t) (hcur : t.curCmd ≠ s.curCmd)
    (hlast : t.outputs.getLast? = some (.result (.err e))) : ∃ op p u, s.currentOp = some op ∧ Fails s op p u e := by
  cases h with
  | stays | sends _ _ | requests _ _ _ _ => exact absurd (by simp) hcur
  | completes _ _ hc => exact absurd (by simp [hc.curCmd]) hcur
  | returns _ _ => simp at hlast
  | raises _ hop hf =>
    obtain rfl := by simpa using hlast
    exact ⟨_, _, _, hop, hf⟩

/-- Settles O52: the step is the requester's and raises the error, and the micro-operation stands in the command in progress. -/
theorem errorsAreRaisedWhereTheTableSays : Obligations.ErrorsAreRaisedWhereTheTableSays := by
  intro s t pre e hstep hout
  obtain ⟨c, hc, hend⟩ := step_ends_of_err hstep hout
  have hcur : t.curCmd ≠ s.curCmd := by simp [hc, hend]
  obtain ⟨op, p, u, hop, hf⟩ : ∃ op p u, s.currentOp = some op ∧ Fails s.tick op p u e := by
    cases step_move hstep with
    | requester _ h => exact h.fails_of_err hcur (by simp [hout])
    | accepts hready _ => exact absurd (hc.symm.trans ((portReady_iff s).mp hready).1) nofun
    | idles | refuses | delivers _ _ | readTimer _ | settleTimer => exact absurd (by simp) hcur
  obtain ⟨c', k, p', hc', -, hat⟩ := currentOp_eq_some hop
  exact ⟨c', op, hc', hop, hf.mem_errorsRaisedBy, mem_errorsOfCommand_of_placed (placed_of_microOpAt hat) hf.mem_errorsRaisedBy⟩

end Sys2Proof.Proofs
end

section
/-! SUPPORT. Proofs of the obligations of 70_reset_and_hazards.md: the registers after block reset, and the invariant there, which
holds because no command is in progress. -/

namespace Sys2Proof.Proofs

open Sys2Proof Sys2Proof.Machine Sys2Proof.Safety

/-- Settles O45, register by register from the laws of `resetWith`, and at the spec's defaults by `State.reset_eq`. -/
theorem resetState : Obligations.ResetState := by
  refine ⟨fun c => ?_, State.reset_eq, ?_⟩
  · simp [MotorStatus.fresh]
  · simp [State.reset_eq, MotorStatus.fresh, Config.initial, Const.stallExcReset, Const.velExcReset, Const.dataCorruptInit]

/-- After block reset no command is in progress, both timers are disarmed and the channel is closed (R291). -/
theorem resting_resetWith (c : Config) : Resting (State.resetWith c) where
  curCmd := State.resetWith_curCmd c
  seqPc := State.resetWith_seqPc c
  settleTimer := State.resetWith_settleTimer c
  waiting := State.resetWith_waiting c
  readTimer := State.resetWith_readTimer c
  lock := State.resetWith_lock c
  rps := by simp [validRps, Const.minVelocity, Const.maxVelocity]
  session := settledAt_iff.mpr (.inr ⟨.inl rfl, rfl⟩)

/-- Settles O46: block reset leaves the block at rest. -/
theorem resetInv : Obligations.ResetInv := by
  have hinv : ∀ c, Inv (State.resetWith c) := fun c => (resting_resetWith c).inv
  exact ⟨State.reset_eq ▸ hinv Config.initial, hinv⟩

end Sys2Proof.Proofs
end
